-- ==== Sys2Proof/Word.lean ====
section
/-! DEFINITION. The widths the 65816 works with (spec/00_scope.md R2, R6): bytes, 16-bit words, 24-bit addresses. -/

namespace Sys2Proof

/-- A byte of memory, A, B, P, DBR, PBR (R2). -/
abbrev Byte := BitVec 8

/-- C, X, Y, S, D, PC and every 16-bit operand (R2). -/
abbrev Word := BitVec 16

/-- One of the 2^24 addresses (R60). -/
abbrev Addr := BitVec 24

/-- The width of an operand, chosen at run time by m or x (R6, R25). -/
inductive Width where
  | w8
  | w16
deriving DecidableEq, Repr

/-- The `w` of the spec's pseudocode, in bits (R6). -/
abbrev Width.bits : Width → Nat
  | .w8 => 8
  | .w16 => 16

end Sys2Proof
end

