-- ==== Sys2Proof/Machine/Bits.lean ====
section
/-! DEFINITION. The bit-field, extension and byte-order helpers of the spec's notation (00_scope.md section 6.1). -/

namespace Sys2Proof.Machine

/-- `v[7:0]`: A of C, XL of X, SL of S, DL of D. -/
def lo (v : Word) : Byte := v.extractLsb' 0 8

/-- `v[15:8]`: B of C, XH of X, SH of S, DH of D. -/
def hi (v : Word) : Byte := v.extractLsb' 8 8

/-- The concatenation of a high and a low byte, little-endian in memory (R63). -/
def joinWord (h l : Byte) : Word := h ++ l

/-- `zext_16(v)` of a byte. -/
def zext16 (v : Byte) : Word := v.setWidth 16

/-- `sext_16(v)` of a byte (R99). -/
def sext16 (v : Byte) : Word := v.signExtend 16

/-- The 24-bit address of a bank and an offset in it (R61). -/
def bankAddr (bank : Byte) (offset : Word) : Addr := bank ++ offset

/-- The address of an offset in bank 0 (R61). -/
def bank0 (offset : Word) : Addr := bankAddr 0x00#8 offset

/-- `t[23:16]` of a 24-bit address. -/
def addrBank (a : Addr) : Byte := a.extractLsb' 16 8

/-- `t[15:0]` of a 24-bit address. -/
def addrOffset (a : Addr) : Word := a.extractLsb' 0 16

/-- `v mod 2^w`, zero-extended back to 16 bits (R188, R290). -/
def narrow (w : Width) (v : Word) : Word := (v.setWidth w.bits).setWidth 16

end Sys2Proof.Machine
end

