-- ==== Sys2Proof/Config.lean ====
section
/-! DEFINITION. What the spec leaves open: the free values (the spec's `draw`, 00_scope.md R9) and the content of memory
nothing has written. The spec's named policies are fixed in log 7 to 10. -/

namespace Sys2Proof

/-- What a byte of memory that nothing has written reads as. DESIGN CHOICE (log 1), unsafe: the spec gives memory no
content at power-up (R65, U9); $00 is the filling of its test vectors (95_test_vectors.md section 2). -/
def Config.unwrittenByte : Byte := 0x00#8

/-- What a drawn result of decimal arithmetic may depend on besides the step it is drawn in (R185). -/
structure DecimalCase where
  subtract : Bool
  width : Width
  acc : Word
  operand : Word
  carry : Bool
deriving DecidableEq, Repr

/-- The v flag after ADC or SBC with d = 1: "v in decimal mode is always a `draw`" (R185). Free. -/
opaque Config.decimalV : Nat → DecimalCase → Bool

/-- The result of ADC or SBC with d = 1 and a digit above 9 (R185). Free; an 8-bit operation takes the low byte. -/
opaque Config.decimalValue : Nat → DecimalCase → Word

/-- The n flag after ADC or SBC with d = 1 and a digit above 9 (R185). Free. -/
opaque Config.decimalN : Nat → DecimalCase → Bool

/-- The z flag after ADC or SBC with d = 1 and a digit above 9 (R185). Free. -/
opaque Config.decimalZ : Nat → DecimalCase → Bool

/-- The c flag after ADC or SBC with d = 1 and a digit above 9 (R185). Free. -/
opaque Config.decimalC : Nat → DecimalCase → Bool

/-- What one byte read is for. No step reads one address twice for one purpose, so the step, the purpose and the address
name each single read that a rule lists. -/
inductive Access where
  /-- An opcode or operand byte (R31, R97). -/
  | fetch
  /-- A byte of a pointer in memory (R127 to R131, R137, R141 to R143). -/
  | pointer
  /-- A byte of the value an instruction works on (R121, R290). -/
  | data
  /-- A byte pulled from the stack (R29). -/
  | stack
  /-- A byte of a vector (R345, R380). -/
  | vector
deriving DecidableEq, Repr

/-- What `Platform` answers to one read of a location that is neither RAM nor ROM, by step, purpose and address (R65,
R70): two reads of one device location need not agree, in one step either, because a read may have side effects and
the processor makes reads that no rule lists (R78). Free (log 4). -/
opaque Config.platformByte : Nat → Access → Nat → Byte

end Sys2Proof
end

