-- ==== Sys2Proof/Machine/State.lean ====
section
/-! DEFINITION. The state of the machine as plain data (spec/10_state.md), the reasons a step can stop, and the state
after reset (R40). Every register has one home; the operations over it are in the other files of Machine/. -/

namespace Sys2Proof.Machine

/-- The eight bits of P, by the spec's letters (R24). -/
inductive Flag where
  | n | v | m | x | d | i | z | c
deriving DecidableEq, Repr

/-- The run state (R33): WAI sets `waiting`, STP sets `stopped`. -/
inductive RunState where
  | running
  | waiting
  | stopped
deriving DecidableEq, Repr

/-- The causes of a trap that the machine takes (R340); ABORT is refused (R343) and RESET is no trap entry (R380). -/
inductive TrapCause where
  | brk
  | cop
  | nmi
  | irq
deriving DecidableEq, Repr

/-- What `Platform` says stands at a location (R65, R70): RAM keeps what is written, ROM ignores writes, and a device
or nothing at all answers reads as it likes. -/
inductive LocationKind where
  | ram
  | rom
  | device
deriving DecidableEq, Repr

/-- A window of the platform's address map: `size` locations from `first` on (R70). -/
structure Window where
  first : Nat
  size : Nat
  kind : LocationKind
deriving DecidableEq, Repr

/-- What `Env` asserts at one step (R340 to R343, R7): RESET, IRQ and ABORT are levels, NMI is "an edge has occurred
since the previous step". -/
structure Inputs where
  reset : Bool
  nmiEdge : Bool
  irq : Bool
  abort : Bool
deriving DecidableEq, Repr

/-- Nothing asserted. -/
def Inputs.inactive : Inputs := { reset := false, nmiEdge := false, irq := false, abort := false }

/-- The contents of the 2^24 locations (R60): (address, byte) pairs, addresses strictly rising, no byte equal to what
an unlisted address reads as (Config.unwrittenByte). Memory.wf says so. -/
structure Memory where
  cells : List Host.Cell
deriving DecidableEq, Repr

/-- The machine's state (10_state.md section 1). The last three fields are the spec's OPEN parameters `Platform` and
`Env`, which R9 makes arguments of the step, and the model's own counter for free values. -/
@[ext]
structure State where
  /-- C, the accumulator: A is its low byte, B its high byte (R20). -/
  c : Word
  /-- X (R21). -/
  x : Word
  /-- Y (R21). -/
  y : Word
  /-- S, the stack pointer (R28). -/
  sp : Word
  /-- D, the direct page register (R30). -/
  d : Word
  /-- DBR, the data bank register (R30). -/
  dbr : Byte
  /-- PBR, the program bank register (R30). -/
  pbr : Byte
  /-- PC, the program counter inside the bank PBR (R31). -/
  pc : Word
  /-- P, the processor register (R24). -/
  p : Byte
  /-- The emulation flag e, outside P (R26). -/
  e : Bool
  /-- The run state (R33). -/
  run : RunState
  /-- nmi_pending (R34). -/
  nmiPending : Bool
  /-- Memory (R60). -/
  mem : Memory
  /-- `Platform` (R70): the first window that holds an address says what stands there; outside every window is RAM. -/
  platform : List Window
  /-- `Env` (R344): the coming samples, one a step; past the end nothing is asserted. -/
  inputs : List Inputs
  /-- The model's own counter: every step draws its free values at a number of its own. -/
  drawCount : Nat
deriving DecidableEq, Repr

/-- The machine has no fault: no access can fault (R64, R71), no encoding is illegal (R104) and BRK and COP are the
only synchronous traps (R340), which are ordinary next states. So there is no constructor. -/
inductive Fault where
deriving DecidableEq, Repr

/-- Why a step has no meaning. -/
inductive Refusal where
  /-- Raised by exec's arm of an instruction that has no meaning yet. Safe. No arm raises it. -/
  | notModelled (mnemonic : String)
  /-- Raised by the look at the inputs when `Env` asserts ABORT: "`refuse`s a run in which `Env` asserts it" (R343).
  Safe: the run has no meaning from there on. -/
  | abortAsserted
deriving DecidableEq, Repr

/-- What a step or an instruction answers. -/
abbrev Result := Host.Outcome State Fault Refusal

/-- The machine right after reset (R40, R380). C, XL, YL, SL and n, v, z, c are unspecified there: DESIGN CHOICE,
log 2. PC is the word at $00FFFC (R40), $0000 in a memory that nothing has written (log 1). -/
def State.reset : State where
  c := 0x0000#16
  x := 0x0000#16
  y := 0x0000#16
  sp := 0x01FF#16
  d := 0x0000#16
  dbr := 0x00#8
  pbr := 0x00#8
  pc := 0x0000#16
  p := 0x34#8
  e := true
  run := .running
  nmiPending := false
  mem := { cells := [] }
  platform := []
  inputs := []
  drawCount := 0

end Sys2Proof.Machine
end

