-- ==== Sys2Proof/Machine/Flags.lean ====
section
/-! DEFINITION. The flags of P (R24) and every flag computation: sums and differences (R183, R184), decimal mode
(R185), comparison (R207), the one-position shifts and rotates (R220 to R223). -/

namespace Sys2Proof.Machine

/-- The bit of P that holds a flag (R24). -/
def Flag.bit : Flag → Nat
  | .c => 0
  | .z => 1
  | .i => 2
  | .d => 3
  | .x => 4
  | .m => 5
  | .v => 6
  | .n => 7

/-- The mask of a flag in P (R24). -/
def Flag.mask (f : Flag) : Byte := 1#8 <<< f.bit

/-- The flag `f` of an image of P. -/
def flagOf (p : Byte) (f : Flag) : Bool := p.getLsbD f.bit

/-- The image of P with flag `f` made `b` and every other bit kept. -/
def withFlag (p : Byte) (f : Flag) (b : Bool) : Byte :=
  if b then p ||| f.mask else p &&& ~~~f.mask

/-- A flag of the machine. -/
def State.flag (s : State) (f : Flag) : Bool := flagOf s.p f

/-- `f <- b`, no other flag changed. -/
def State.setFlag (s : State) (f : Flag) (b : Bool) : State := { s with p := withFlag s.p f b }

/-- `SetNZ(v, w)` (00_scope.md section 6.1). -/
def State.setNZ {w : Nat} (s : State) (v : BitVec w) : State := (s.setFlag .n v.msb).setFlag .z (v == 0#w)

/-- `wA` (R6): 8 bits when m = 1. -/
def State.wA (s : State) : Width := if s.flag .m then .w8 else .w16

/-- `wXY` (R6): 8 bits when x = 1. -/
def State.wXY (s : State) : Width := if s.flag .x then .w8 else .w16

/-- What an addition, subtraction or comparison computes: the value and the flags n, v, z, c. -/
structure SumOutcome (w : Nat) where
  value : BitVec w
  n : Bool
  v : Bool
  z : Bool
  c : Bool
deriving DecidableEq, Repr

/-- The binary sum `a + b + carry` of rule R183: c is the carry out of bit w-1, v the signed overflow. -/
def binaryAdd {w : Nat} (a b : BitVec w) (carry : Bool) : SumOutcome w :=
  let sum := a.toNat + b.toNat + carry.toNat
  let r := BitVec.ofNat w sum
  { value := r, n := r.msb, v := a.msb == b.msb && r.msb != a.msb, z := r == 0#w, c := decide (2 ^ w ≤ sum) }

/-- The binary difference of rule R184: the sum of `a`, the complement of `b` and the carry, an inverted borrow. -/
def binarySub {w : Nat} (a b : BitVec w) (carry : Bool) : SumOutcome w := binaryAdd a (~~~b) carry

/-- The digits of a packed decimal number are all 0 to 9 (R185), for the low `k` digits. -/
def decimalDigitsValid : Nat → Nat → Bool
  | 0, _ => true
  | k + 1, a => decide (a % 16 ≤ 9) && decimalDigitsValid k (a / 16)

/-- The digit-wise sum of rule R185 over the low `k` digits, from the lowest: the result and the carry (0 or 1). -/
def decimalAddDigits : Nat → Nat → Nat → Nat → Nat × Nat
  | 0, _, _, carry => (0, carry)
  | k + 1, a, b, carry =>
    let t := a % 16 + b % 16 + carry
    let digit := if 9 < t then t - 10 else t
    let rest := decimalAddDigits k (a / 16) (b / 16) (if 9 < t then 1 else 0)
    (digit + 16 * rest.1, rest.2)

/-- The digit-wise difference of rule R185 over the low `k` digits, from the lowest: the result and the borrow (0 or 1). -/
def decimalSubDigits : Nat → Nat → Nat → Nat → Nat × Nat
  | 0, _, _, borrow => (0, borrow)
  | k + 1, a, b, borrow =>
    let t : Int := (a % 16 : Nat) - (b % 16 : Nat) - (borrow : Nat)
    let digit := if t < 0 then (t + 10).toNat else t.toNat
    let rest := decimalSubDigits k (a / 16) (b / 16) (if t < 0 then 1 else 0)
    (digit + 16 * rest.1, rest.2)

/-- What a decimal operation draws its open values from (R185). -/
def decimalCase (subtract : Bool) (w : Width) (a b : BitVec w.bits) (carry : Bool) : DecimalCase :=
  { subtract, width := w, acc := a.setWidth 16, operand := b.setWidth 16, carry }

/-- A decimal result whose digits were all valid: n and z from the result, v drawn (R185). -/
def decimalValid (draw : Nat) (k : DecimalCase) {w : Nat} (r : BitVec w) (carryOut : Bool) : SumOutcome w :=
  { value := r, n := r.msb, v := Config.decimalV draw k, z := r == 0#w, c := carryOut }

/-- A decimal operation on a digit above 9: "the result, c, n and z are `draw` values", and so is v (R185). -/
def decimalDrawn (draw : Nat) (k : DecimalCase) (w : Nat) : SumOutcome w :=
  { value := (Config.decimalValue draw k).setWidth w, n := Config.decimalN draw k, v := Config.decimalV draw k,
    z := Config.decimalZ draw k, c := Config.decimalC draw k }

/-- ADC with d = 1 (R185). -/
def decimalAdd (draw : Nat) (w : Width) (a b : BitVec w.bits) (carry : Bool) : SumOutcome w.bits :=
  let digits := w.bits / 4
  let k := decimalCase false w a b carry
  if decimalDigitsValid digits a.toNat && decimalDigitsValid digits b.toNat then
    let r := decimalAddDigits digits a.toNat b.toNat carry.toNat
    decimalValid draw k (BitVec.ofNat w.bits r.1) (r.2 == 1)
  else decimalDrawn draw k w.bits

/-- SBC with d = 1 (R185): the borrow in is 1 - c, and c after it is 1 - borrow. -/
def decimalSub (draw : Nat) (w : Width) (a b : BitVec w.bits) (carry : Bool) : SumOutcome w.bits :=
  let digits := w.bits / 4
  let k := decimalCase true w a b carry
  if decimalDigitsValid digits a.toNat && decimalDigitsValid digits b.toNat then
    let r := decimalSubDigits digits a.toNat b.toNat (1 - carry.toNat)
    decimalValid draw k (BitVec.ofNat w.bits r.1) (r.2 == 0)
  else decimalDrawn draw k w.bits

/-- ADC's outcome: binary when d = 0 (R183), decimal when d = 1 (R185). -/
def State.addOutcome (s : State) (w : Width) (a b : BitVec w.bits) : SumOutcome w.bits :=
  if s.flag .d then decimalAdd s.drawCount w a b (s.flag .c) else binaryAdd a b (s.flag .c)

/-- SBC's outcome: binary when d = 0 (R184), decimal when d = 1 (R185). -/
def State.subOutcome (s : State) (w : Width) (a b : BitVec w.bits) : SumOutcome w.bits :=
  if s.flag .d then decimalSub s.drawCount w a b (s.flag .c) else binarySub a b (s.flag .c)

/-- Writes n, v, z, c of an addition or subtraction (R183, R184). -/
def State.setSumFlags {w : Nat} (s : State) (o : SumOutcome w) : State :=
  (((s.setFlag .n o.n).setFlag .v o.v).setFlag .z o.z).setFlag .c o.c

/-- The flags of a comparison (R207): c when the register is at least the operand, n and z of the difference. -/
def State.compareFlags {w : Nat} (s : State) (reg mv : BitVec w) : State :=
  (s.setFlag .c (decide (mv.toNat ≤ reg.toNat))).setNZ (reg - mv)

/-- A result and the bit shifted out of it, the new carry. -/
structure ShiftOutcome (w : Nat) where
  value : BitVec w
  carry : Bool
deriving DecidableEq, Repr

/-- ASL: a zero enters at bit 0, the top bit leaves (R221). -/
def shiftLeft {w : Nat} (t : BitVec w) : ShiftOutcome w := { value := t <<< 1, carry := t.msb }

/-- LSR: a zero enters at the top, bit 0 leaves (R220). -/
def shiftRight {w : Nat} (t : BitVec w) : ShiftOutcome w := { value := t >>> 1, carry := t.getLsbD 0 }

/-- ROL: the old carry enters at bit 0, the top bit leaves (R222). -/
def rotateLeft {w : Nat} (t : BitVec w) (carry : Bool) : ShiftOutcome w :=
  { value := (t <<< 1) ||| (BitVec.ofBool carry).setWidth w, carry := t.msb }

/-- ROR: the old carry enters at the top, bit 0 leaves (R223). -/
def rotateRight {w : Nat} (t : BitVec w) (carry : Bool) : ShiftOutcome w :=
  { value := (t >>> 1) ||| ((BitVec.ofBool carry).setWidth w <<< (w - 1)), carry := t.getLsbD 0 }

/-- c, n and z after a shift or rotate (R220 to R223). -/
def State.setShiftFlags {w : Nat} (s : State) (o : ShiftOutcome w) : State :=
  (s.setFlag .c o.carry).setNZ o.value

end Sys2Proof.Machine
end

