-- ==== Sys2Proof/Machine/Ops.lean ====
section
/-! DEFINITION. The named operations over memory, registers and the stack (20_memory.md, 10_state.md), taking a trap and
returning from one (R346, R347, R332), and the reset sequence (R380). -/

namespace Sys2Proof.Machine

/-! ### Memory (R60, R65) -/

/-- The byte a list of cells holds at an address; an unlisted address reads as Config.unwrittenByte (log 1). -/
def cellsRead : List Host.Cell → Nat → Byte
  | [], _ => Config.unwrittenByte
  | (k, b) :: rest, a => if k = a then b else cellsRead rest a

/-- The cells with `v` stored at `a`, the order of addresses kept. -/
def cellsInsert : List Host.Cell → Nat → Byte → List Host.Cell
  | [], a, v => [(a, v)]
  | (k, b) :: rest, a, v =>
    if k < a then (k, b) :: cellsInsert rest a v
    else if k = a then (a, v) :: rest
    else (a, v) :: (k, b) :: rest

/-- The cells without an entry at `a`. -/
def cellsErase : List Host.Cell → Nat → List Host.Cell
  | [], _ => []
  | (k, b) :: rest, a => if k = a then cellsErase rest a else (k, b) :: cellsErase rest a

/-- The canonical form from an address on: addresses strictly rising and below 2^24, no unwritten byte listed. -/
def cellsWf : Nat → List Host.Cell → Bool
  | _, [] => true
  | least, (k, b) :: rest =>
    decide (least ≤ k) && decide (k < 2 ^ 24) && (b != Config.unwrittenByte) && cellsWf (k + 1) rest

/-- The canonical form of memory: equal memories are equal data. -/
def Memory.wf (m : Memory) : Bool := cellsWf 0 m.cells

/-- The byte at an address (R65). -/
def Memory.read (m : Memory) (a : Nat) : Byte := cellsRead m.cells a

/-- Memory with a byte written; writing what an unlisted address reads as removes the entry. -/
def Memory.write (m : Memory) (a : Nat) (v : Byte) : Memory :=
  { cells := if v = Config.unwrittenByte then cellsErase m.cells a else cellsInsert m.cells a v }

/-- A window holds an address. -/
def Window.holds (w : Window) (a : Nat) : Bool := decide (w.first ≤ a) && decide (a < w.first + w.size)

/-- What stands at an address: the first window that holds it, RAM outside every window (log 3). -/
def kindIn : List Window → Nat → LocationKind
  | [], _ => .ram
  | w :: rest, a => if w.holds a then w.kind else kindIn rest a

/-- What `Platform` says stands at an address (R70). -/
def State.kindAt (s : State) (a : Addr) : LocationKind := kindIn s.platform a.toNat

/-- `MemRead(a, 1)` for a purpose (R65): RAM and ROM answer their content whatever the purpose, any other location answers
every read by a free value of its own (R78, log 4). -/
def State.readByte (s : State) (use : Access) (a : Addr) : Byte :=
  match s.kindAt a with
  | .ram => s.mem.read a.toNat
  | .rom => s.mem.read a.toNat
  | .device => Config.platformByte s.drawCount use a.toNat

/-- `MemWrite(a, 1, v)` (R65): only RAM keeps the byte. -/
def State.writeByte (s : State) (a : Addr) (v : Byte) : State :=
  { s with mem := if s.kindAt a = .ram then s.mem.write a.toNat v else s.mem }

/-- How a multi-byte access steps to its next byte (R121): over 24 bits, or over 16 bits inside bank 0. -/
inductive LocKind where
  | lin
  | bank0
deriving DecidableEq, Repr

/-- `loc = (ea, kind)` (R120): the effective address of an operand and how it steps. -/
structure Loc where
  ea : Addr
  kind : LocKind
deriving DecidableEq, Repr

/-- The address of the second byte of a 16-bit access (R66, R67). -/
def Loc.second (l : Loc) : Addr :=
  match l.kind with
  | .lin => l.ea + 1#24
  | .bank0 => bank0 (addrOffset l.ea + 1#16)

/-- `ReadOp(loc, w)` (R121). -/
def State.readOp (s : State) (l : Loc) (w : Width) : BitVec w.bits :=
  match w with
  | .w8 => s.readByte .data l.ea
  | .w16 => joinWord (s.readByte .data l.second) (s.readByte .data l.ea)

/-- `WriteOp(loc, w, v)` (R121), the low byte first as a plain store does (R68). -/
def State.writeOp (s : State) (l : Loc) (w : Width) (v : BitVec w.bits) : State :=
  match w with
  | .w8 => s.writeByte l.ea v
  | .w16 => (s.writeByte l.ea (lo v)).writeByte l.second (hi v)

/-- `WriteOp(loc, w, v)` of a read-modify-write instruction, the high byte first (R68). -/
def State.writeBack (s : State) (l : Loc) (w : Width) (v : BitVec w.bits) : State :=
  match w with
  | .w8 => s.writeByte l.ea v
  | .w16 => (s.writeByte l.second (hi v)).writeByte l.ea (lo v)

/-- `MemRead0(a16, 2)` for a purpose (R67). -/
def State.readWord0 (s : State) (use : Access) (a : Word) : Word :=
  joinWord (s.readByte use (bank0 (a + 1#16))) (s.readByte use (bank0 a))

/-- `MemRead0(a16, 3)` of a pointer (R67). -/
def State.readLong0 (s : State) (a : Word) : Addr :=
  bankAddr (s.readByte .pointer (bank0 (a + 2#16))) (s.readWord0 .pointer a)

/-- A 16-bit pointer read from the program bank, its address wrapping in that bank (R142). -/
def State.readProgramWord (s : State) (a : Word) : Word :=
  joinWord (s.readByte .pointer (bankAddr s.pbr (a + 1#16))) (s.readByte .pointer (bankAddr s.pbr a))

/-! ### Registers (R20 to R23) -/

/-- The accumulator at width w: A or C (R20). -/
def State.acc (s : State) (w : Width) : BitVec w.bits := s.c.setWidth w.bits

/-- Writes the accumulator at width w: B is kept when w = 8 (R20). -/
def State.setAcc (s : State) (w : Width) (v : BitVec w.bits) : State :=
  { s with c := match w with
    | .w8 => joinWord (hi s.c) v
    | .w16 => v }

/-- X at width w. -/
def State.regX (s : State) (w : Width) : BitVec w.bits := s.x.setWidth w.bits

/-- Y at width w. -/
def State.regY (s : State) (w : Width) : BitVec w.bits := s.y.setWidth w.bits

/-- `X <- zext_16(v)`: XH is zero when w = 8 (R22). -/
def State.setX (s : State) (w : Width) (v : BitVec w.bits) : State := { s with x := v.setWidth 16 }

/-- `Y <- zext_16(v)`: YH is zero when w = 8 (R22). -/
def State.setY (s : State) (w : Width) (v : BitVec w.bits) : State := { s with y := v.setWidth 16 }

/-- Writes S: SH stays $01 in emulation mode (R268, R274, R27). -/
def State.setStackPointer (s : State) (v : Word) : State :=
  { s with sp := if s.e then joinWord (hi s.sp) (lo v) else v }

/-- `PCnext` of an instruction of `len` bytes, inside the bank (R32). -/
def State.pcNext (s : State) (len : Nat) : Word := s.pc + BitVec.ofNat 16 len

/-- Leaves PC at `PCnext` (R32). -/
def State.advance (s : State) (len : Nat) : State := { s with pc := s.pcNext len }

/-- `pc <- target`, PBR kept. -/
def State.jump (s : State) (target : Word) : State := { s with pc := target }

/-- `PBR <- t[23:16]; pc <- t[15:0]` (R143, R144). -/
def State.jumpLong (s : State) (t : Addr) : State := { s with pc := addrOffset t, pbr := addrBank t }

/-- What follows every write of P or e (R325): emulation mode holds m, x and SH, and x = 1 clears XH and YH. -/
def State.enforceMode (s : State) : State :=
  let p := if s.e then s.p ||| 0x30#8 else s.p
  { s with
    p := p
    x := if flagOf p .x then zext16 (lo s.x) else s.x
    y := if flagOf p .x then zext16 (lo s.y) else s.y
    sp := if s.e then joinWord 0x01#8 (lo s.sp) else s.sp }

/-- `P <- v` followed by rule R325. -/
def State.writeP (s : State) (v : Byte) : State := State.enforceMode { s with p := v }

/-! ### The stack (R29, R311) -/

/-- How S moves in emulation mode: inside page 1 (R29), or over 16 bits as the nine instructions of rule R311 do. -/
inductive StackRule where
  | page
  | free
deriving DecidableEq, Repr

/-- Moves S by `by_`: over 16 bits in native mode, on SL alone in emulation mode under the page rule. -/
def State.moveStack (s : State) (r : StackRule) (by_ : Word) : State :=
  { s with sp := if s.e && r == .page then joinWord (hi s.sp) (lo (s.sp + by_)) else s.sp + by_ }

/-- `Push8(v)` (R29). -/
def State.push8 (s : State) (r : StackRule) (v : Byte) : State :=
  (s.writeByte (bank0 s.sp) v).moveStack r 0xFFFF#16

/-- `Push16(v)`: the high byte first (R29). -/
def State.push16 (s : State) (r : StackRule) (v : Word) : State := (s.push8 r (hi v)).push8 r (lo v)

/-- `Pull8()` (R29): the byte and the state after it. -/
def State.pull8 (s : State) (r : StackRule) : Byte × State :=
  let t := s.moveStack r 1#16
  (t.readByte .stack (bank0 t.sp), t)

/-- `Pull16()`: the low byte first (R29). -/
def State.pull16 (s : State) (r : StackRule) : Word × State :=
  let low := s.pull8 r
  let high := low.2.pull8 r
  (joinWord high.1 low.1, high.2)

/-- A push at a width (R309). -/
def State.pushReg (s : State) (w : Width) (v : BitVec w.bits) : State :=
  match w with
  | .w8 => s.push8 .page v
  | .w16 => s.push16 .page v

/-- A pull at a width (R309). -/
def State.pullReg (s : State) (w : Width) : BitVec w.bits × State :=
  match w with
  | .w8 => s.pull8 .page
  | .w16 => s.pull16 .page

/-- `SH <- $01` at the end of one of the nine instructions of rule R311, in emulation mode. -/
def State.restoreStackPage (s : State) : State := { s with sp := if s.e then joinWord 0x01#8 (lo s.sp) else s.sp }

/-! ### Traps (R345 to R347), the return (R332) and reset (R380) -/

/-- The vector of a cause, by e at the time of the trap (R345). -/
def TrapCause.vector (cause : TrapCause) (e : Bool) : Word :=
  match cause with
  | .brk => if e then 0xFFFE#16 else 0xFFE6#16
  | .cop => if e then 0xFFF4#16 else 0xFFE4#16
  | .nmi => if e then 0xFFFA#16 else 0xFFEA#16
  | .irq => if e then 0xFFFE#16 else 0xFFEE#16

/-- The image of P that a trap pushes in emulation mode (R347): bit $10 tells a software trap from an interrupt. -/
def TrapCause.emulationImage (cause : TrapCause) (p : Byte) : Byte :=
  match cause with
  | .brk => p ||| 0x30#8
  | .cop => p ||| 0x30#8
  | .nmi => (p ||| 0x20#8) &&& ~~~0x10#8
  | .irq => (p ||| 0x20#8) &&& ~~~0x10#8

/-- What a trap saves: PBR, the return address and P in native mode (R346); the return address and the image of P in
emulation mode (R347). -/
def State.pushTrapFrame (s : State) (cause : TrapCause) (ret : Word) : State :=
  if s.e then (s.push16 .page ret).push8 .page (cause.emulationImage s.p)
  else ((s.push8 .page s.pbr).push16 .page ret).push8 .page s.p

/-- Taking a trap (R346, R347): the frame is pushed, i set, d cleared, PBR zeroed, PC loaded from the vector. -/
def State.takeTrap (s : State) (cause : TrapCause) (ret : Word) : State :=
  let saved := s.pushTrapFrame cause ret
  let masked := (saved.setFlag .i true).setFlag .d false
  let banked : State := { masked with pbr := 0x00#8 }
  banked.jump (banked.readWord0 .vector (cause.vector s.e))

/-- RTI (R332): P, rule R325, PC with no adjustment, and PBR in native mode. -/
def State.returnFromTrap (s : State) : State :=
  let status := s.pull8 .page
  let restored := status.2.writeP status.1
  let counter := restored.pull16 .page
  let jumped := counter.2.jump counter.1
  if s.e then jumped
  else
    let bank := jumped.pull8 .page
    { bank.2 with pbr := bank.1 }

/-- The reset sequence (R380): n, v, z, c, C, XL, YL, SL and memory are not written. -/
def State.resetSequence (s : State) : State :=
  let p := withFlag (withFlag (withFlag (withFlag s.p .m true) .x true) .d false) .i true
  let cleared : State := { s with
    e := true
    p := p
    x := zext16 (lo s.x)
    y := zext16 (lo s.y)
    sp := joinWord 0x01#8 (lo s.sp)
    d := 0x0000#16
    dbr := 0x00#8
    pbr := 0x00#8
    run := .running
    nmiPending := false }
  cleared.jump (cleared.readWord0 .vector 0xFFFC#16)

end Sys2Proof.Machine
end

