-- ==== Sys2Proof/Machine/Operands.lean ====
section
/-! DEFINITION. The operand forms and their effective addresses (40_addressing.md R120 to R145). -/

namespace Sys2Proof.Machine

/-- The operand forms that yield a location, with the bytes of the instruction (R146). -/
inductive MemForm where
  | dp (offset : Byte)
  | dpX (offset : Byte)
  | dpY (offset : Byte)
  | indDp (offset : Byte)
  | indDpX (offset : Byte)
  | indDpY (offset : Byte)
  | longIndDp (offset : Byte)
  | longIndDpY (offset : Byte)
  | addr (a : Word)
  | addrX (a : Word)
  | addrY (a : Word)
  | long (a : Addr)
  | longX (a : Addr)
  | sr (offset : Byte)
  | indSrY (offset : Byte)
deriving DecidableEq, Repr

/-- `(D + zext_16(dp)) mod 2^16` (R124). -/
def State.directOffset (s : State) (offset : Byte) : Word := s.d + zext16 offset

/-- The page wrap of emulation mode is in force: e = 1 and DL = $00 (R126). -/
def State.pageWrap (s : State) : Bool := s.e && lo s.d == 0x00#8

/-- The indexed offset of `dp,X`, `dp,Y` and `(dp,X)`: over 16 bits (R125), inside the page in emulation mode (R126). -/
def State.directIndexed (s : State) (offset : Byte) (index : Word) : Word :=
  if s.pageWrap then joinWord (hi s.d) (offset + lo index) else s.d + zext16 offset + index

/-- The 16-bit pointer of `(dp)`, `(dp,X)`, `(dp),Y` at offset `a` of bank 0 (R127 to R129): its second byte wraps in
the page in emulation mode (R126, log 8). -/
def State.directPointer (s : State) (a : Word) : Word :=
  if s.pageWrap then
    joinWord (s.readByte .pointer (bank0 (joinWord (hi s.d) (lo a + 1#8)))) (s.readByte .pointer (bank0 (joinWord (hi s.d) (lo a))))
  else s.readWord0 .pointer a

/-- `{DBR, a}` (R132). -/
def State.dataAddr (s : State) (a : Word) : Addr := bankAddr s.dbr a

/-- An index added over 24 bits (R129, R133, R135). -/
def indexed (base : Addr) (index : Word) : Addr := base + index.setWidth 24

/-- `(S + zext_16(sr)) mod 2^16` (R136). -/
def State.stackOffset (s : State) (offset : Byte) : Word := s.sp + zext16 offset

/-- The location of an operand form (R124 to R137). -/
def MemForm.loc (f : MemForm) (s : State) : Loc :=
  match f with
  | .dp o => { ea := bank0 (s.directOffset o), kind := .bank0 }
  | .dpX o => { ea := bank0 (s.directIndexed o s.x), kind := .bank0 }
  | .dpY o => { ea := bank0 (s.directIndexed o s.y), kind := .bank0 }
  | .indDp o => { ea := s.dataAddr (s.directPointer (s.directOffset o)), kind := .lin }
  | .indDpX o => { ea := s.dataAddr (s.directPointer (s.directIndexed o s.x)), kind := .lin }
  | .indDpY o => { ea := indexed (s.dataAddr (s.directPointer (s.directOffset o))) s.y, kind := .lin }
  | .longIndDp o => { ea := s.readLong0 (s.directOffset o), kind := .lin }
  | .longIndDpY o => { ea := indexed (s.readLong0 (s.directOffset o)) s.y, kind := .lin }
  | .addr a => { ea := s.dataAddr a, kind := .lin }
  | .addrX a => { ea := indexed (s.dataAddr a) s.x, kind := .lin }
  | .addrY a => { ea := indexed (s.dataAddr a) s.y, kind := .lin }
  | .long a => { ea := a, kind := .lin }
  | .longX a => { ea := indexed a s.x, kind := .lin }
  | .sr o => { ea := bank0 (s.stackOffset o), kind := .bank0 }
  | .indSrY o => { ea := indexed (s.dataAddr (s.readWord0 .pointer (s.stackOffset o))) s.y, kind := .lin }

/-- The length in bytes of an instruction with the form (R91). -/
def MemForm.length : MemForm → Nat
  | .dp _ => 2
  | .dpX _ => 2
  | .dpY _ => 2
  | .indDp _ => 2
  | .indDpX _ => 2
  | .indDpY _ => 2
  | .longIndDp _ => 2
  | .longIndDpY _ => 2
  | .addr _ => 3
  | .addrX _ => 3
  | .addrY _ => 3
  | .long _ => 4
  | .longX _ => 4
  | .sr _ => 2
  | .indSrY _ => 2

/-- What an instruction reads: a `const` (R122) or a location. -/
inductive Operand where
  | const (k : Word)
  | mem (f : MemForm)
deriving DecidableEq, Repr

/-- `mv`: the constant as it stands, or `ReadOp(loc, w)` (R98, R121). -/
def Operand.read (o : Operand) (s : State) (w : Width) : BitVec w.bits :=
  match o with
  | .const k => k.setWidth w.bits
  | .mem f => s.readOp (f.loc s) w

/-- The length in bytes of an instruction with the operand: a `const` takes one byte or two (R92, R98). -/
def Operand.length (o : Operand) (w : Width) : Nat :=
  match o with
  | .const _ => 1 + w.bits / 8
  | .mem f => f.length

/-- What a read-modify-write instruction works on: the accumulator (R123) or a location (R224). -/
inductive Target where
  | acc
  | mem (f : MemForm)
deriving DecidableEq, Repr

/-- The value a read-modify-write instruction reads (R187, R224). -/
def Target.read (t : Target) (s : State) (w : Width) : BitVec w.bits :=
  match t with
  | .acc => s.acc w
  | .mem f => s.readOp (f.loc s) w

/-- Writes the result back where it came from (R187, R224). -/
def Target.write (t : Target) (s : State) (w : Width) (v : BitVec w.bits) : State :=
  match t with
  | .acc => s.setAcc w v
  | .mem f => s.writeBack (f.loc s) w v

/-- The length in bytes of an instruction with the target. -/
def Target.length (t : Target) : Nat :=
  match t with
  | .acc => 1
  | .mem f => f.length

/-- `near`: the target of an 8-bit branch of two bytes (R138). -/
def State.nearTarget (s : State) (disp : Byte) : Word := s.pcNext 2 + sext16 disp

/-- `rel16`: the target of BRL and PER, of three bytes (R139). -/
def State.rel16Target (s : State) (disp : Word) : Word := s.pcNext 3 + disp

/-- `(addr,X)`: the pointer's offset in the program bank (R142). -/
def State.indexedPointer (s : State) (a : Word) : Word := a + s.x

end Sys2Proof.Machine
end

