-- ==== Sys2Proof/Machine/Arith.lean ====
section
/-! DEFINITION. TRB TSB, ADC SBC, INC INX INY DEC DEX DEY (spec/42_trb_tsb_adc_sbc_inc_dec.md). -/

namespace Sys2Proof.Machine

/-! ### Shared operations -/

/-- TRB at width w (R180): z from the old memory value and the accumulator, then the bits are reset. -/
def State.testReset (s : State) (w : Width) (f : MemForm) : State :=
  let t := s.readOp (f.loc s) w
  ((s.setFlag .z ((t &&& s.acc w) == 0#w.bits)).writeBack (f.loc s) w (t &&& ~~~(s.acc w))).advance f.length

/-- TSB at width w (R181): z from the old memory value and the accumulator, then the bits are set. -/
def State.testSet (s : State) (w : Width) (f : MemForm) : State :=
  let t := s.readOp (f.loc s) w
  ((s.setFlag .z ((t &&& s.acc w) == 0#w.bits)).writeBack (f.loc s) w (t ||| s.acc w)).advance f.length

/-- ADC of an operand at width w (R182, R183, R185). -/
def State.addWithCarry (s : State) (w : Width) (o : Operand) : State :=
  let r := s.addOutcome w (s.acc w) (o.read s w)
  ((s.setAcc w r.value).setSumFlags r).advance (o.length w)

/-- SBC of an operand at width w (R182, R184, R185). -/
def State.subWithCarry (s : State) (w : Width) (o : Operand) : State :=
  let r := s.subOutcome w (s.acc w) (o.read s w)
  ((s.setAcc w r.value).setSumFlags r).advance (o.length w)

/-- INC of the accumulator or a location at width w (R187). -/
def State.increment (s : State) (w : Width) (t : Target) : State :=
  let r := t.read s w + 1#w.bits
  ((t.write s w r).setNZ r).advance t.length

/-- DEC of the accumulator or a location at width w (R190). -/
def State.decrement (s : State) (w : Width) (t : Target) : State :=
  let r := t.read s w - 1#w.bits
  ((t.write s w r).setNZ r).advance t.length

/-- X written at width w with n and z, in a one-byte instruction (R188, R191). -/
def State.replaceX (s : State) (w : Width) (v : BitVec w.bits) : State := ((s.setX w v).setNZ v).advance 1

/-- Y written at width w with n and z, in a one-byte instruction (R189, R192). -/
def State.replaceY (s : State) (w : Width) (v : BitVec w.bits) : State := ((s.setY w v).setNZ v).advance 1

/-! ### Test and change -/

/-- TRB dp, opcode $14 (R180). -/
def execTrbDp (dp : Byte) (s : State) : Result := .next (s.testReset s.wA (.dp dp))

/-- TRB addr, opcode $1C (R180). -/
def execTrbAddr (addr : Word) (s : State) : Result := .next (s.testReset s.wA (.addr addr))

/-- TSB dp, opcode $04 (R181). -/
def execTsbDp (dp : Byte) (s : State) : Result := .next (s.testSet s.wA (.dp dp))

/-- TSB addr, opcode $0C (R181). -/
def execTsbAddr (addr : Word) (s : State) : Result := .next (s.testSet s.wA (.addr addr))

/-! ### Addition and subtraction -/

/-- ADC (dp,X), opcode $61 (R183). -/
def execAdcIndDpX (dp : Byte) (s : State) : Result := .next (s.addWithCarry s.wA (.mem (.indDpX dp)))

/-- ADC sr,S, opcode $63 (R183). -/
def execAdcSr (sr : Byte) (s : State) : Result := .next (s.addWithCarry s.wA (.mem (.sr sr)))

/-- ADC dp, opcode $65 (R183). -/
def execAdcDp (dp : Byte) (s : State) : Result := .next (s.addWithCarry s.wA (.mem (.dp dp)))

/-- ADC [dp], opcode $67 (R183). -/
def execAdcLongIndDp (dp : Byte) (s : State) : Result := .next (s.addWithCarry s.wA (.mem (.longIndDp dp)))

/-- ADC const, opcode $69 (R183). -/
def execAdcConst (const : Word) (s : State) : Result := .next (s.addWithCarry s.wA (.const const))

/-- ADC addr, opcode $6D (R183). -/
def execAdcAddr (addr : Word) (s : State) : Result := .next (s.addWithCarry s.wA (.mem (.addr addr)))

/-- ADC long, opcode $6F (R183). -/
def execAdcLong (long : Addr) (s : State) : Result := .next (s.addWithCarry s.wA (.mem (.long long)))

/-- ADC (dp),Y, opcode $71 (R183). -/
def execAdcIndDpY (dp : Byte) (s : State) : Result := .next (s.addWithCarry s.wA (.mem (.indDpY dp)))

/-- ADC (dp), opcode $72 (R183). -/
def execAdcIndDp (dp : Byte) (s : State) : Result := .next (s.addWithCarry s.wA (.mem (.indDp dp)))

/-- ADC (sr,S),Y, opcode $73 (R183). -/
def execAdcIndSrY (sr : Byte) (s : State) : Result := .next (s.addWithCarry s.wA (.mem (.indSrY sr)))

/-- ADC dp,X, opcode $75 (R183). -/
def execAdcDpX (dp : Byte) (s : State) : Result := .next (s.addWithCarry s.wA (.mem (.dpX dp)))

/-- ADC [dp],Y, opcode $77 (R183). -/
def execAdcLongIndDpY (dp : Byte) (s : State) : Result := .next (s.addWithCarry s.wA (.mem (.longIndDpY dp)))

/-- ADC addr,Y, opcode $79 (R183). -/
def execAdcAddrY (addr : Word) (s : State) : Result := .next (s.addWithCarry s.wA (.mem (.addrY addr)))

/-- ADC addr,X, opcode $7D (R183). -/
def execAdcAddrX (addr : Word) (s : State) : Result := .next (s.addWithCarry s.wA (.mem (.addrX addr)))

/-- ADC long,X, opcode $7F (R183). -/
def execAdcLongX (long : Addr) (s : State) : Result := .next (s.addWithCarry s.wA (.mem (.longX long)))

/-- SBC (dp,X), opcode $E1 (R184). -/
def execSbcIndDpX (dp : Byte) (s : State) : Result := .next (s.subWithCarry s.wA (.mem (.indDpX dp)))

/-- SBC sr,S, opcode $E3 (R184). -/
def execSbcSr (sr : Byte) (s : State) : Result := .next (s.subWithCarry s.wA (.mem (.sr sr)))

/-- SBC dp, opcode $E5 (R184). -/
def execSbcDp (dp : Byte) (s : State) : Result := .next (s.subWithCarry s.wA (.mem (.dp dp)))

/-- SBC [dp], opcode $E7 (R184). -/
def execSbcLongIndDp (dp : Byte) (s : State) : Result := .next (s.subWithCarry s.wA (.mem (.longIndDp dp)))

/-- SBC const, opcode $E9 (R184). -/
def execSbcConst (const : Word) (s : State) : Result := .next (s.subWithCarry s.wA (.const const))

/-- SBC addr, opcode $ED (R184). -/
def execSbcAddr (addr : Word) (s : State) : Result := .next (s.subWithCarry s.wA (.mem (.addr addr)))

/-- SBC long, opcode $EF (R184). -/
def execSbcLong (long : Addr) (s : State) : Result := .next (s.subWithCarry s.wA (.mem (.long long)))

/-- SBC (dp),Y, opcode $F1 (R184). -/
def execSbcIndDpY (dp : Byte) (s : State) : Result := .next (s.subWithCarry s.wA (.mem (.indDpY dp)))

/-- SBC (dp), opcode $F2 (R184). -/
def execSbcIndDp (dp : Byte) (s : State) : Result := .next (s.subWithCarry s.wA (.mem (.indDp dp)))

/-- SBC (sr,S),Y, opcode $F3 (R184). -/
def execSbcIndSrY (sr : Byte) (s : State) : Result := .next (s.subWithCarry s.wA (.mem (.indSrY sr)))

/-- SBC dp,X, opcode $F5 (R184). -/
def execSbcDpX (dp : Byte) (s : State) : Result := .next (s.subWithCarry s.wA (.mem (.dpX dp)))

/-- SBC [dp],Y, opcode $F7 (R184). -/
def execSbcLongIndDpY (dp : Byte) (s : State) : Result := .next (s.subWithCarry s.wA (.mem (.longIndDpY dp)))

/-- SBC addr,Y, opcode $F9 (R184). -/
def execSbcAddrY (addr : Word) (s : State) : Result := .next (s.subWithCarry s.wA (.mem (.addrY addr)))

/-- SBC addr,X, opcode $FD (R184). -/
def execSbcAddrX (addr : Word) (s : State) : Result := .next (s.subWithCarry s.wA (.mem (.addrX addr)))

/-- SBC long,X, opcode $FF (R184). -/
def execSbcLongX (long : Addr) (s : State) : Result := .next (s.subWithCarry s.wA (.mem (.longX long)))

/-! ### Increment and decrement -/

/-- INC, opcode $1A (R187). -/
def execIncAcc (s : State) : Result := .next (s.increment s.wA .acc)

/-- INC dp, opcode $E6 (R187). -/
def execIncDp (dp : Byte) (s : State) : Result := .next (s.increment s.wA (.mem (.dp dp)))

/-- INC addr, opcode $EE (R187). -/
def execIncAddr (addr : Word) (s : State) : Result := .next (s.increment s.wA (.mem (.addr addr)))

/-- INC dp,X, opcode $F6 (R187). -/
def execIncDpX (dp : Byte) (s : State) : Result := .next (s.increment s.wA (.mem (.dpX dp)))

/-- INC addr,X, opcode $FE (R187). -/
def execIncAddrX (addr : Word) (s : State) : Result := .next (s.increment s.wA (.mem (.addrX addr)))

/-- INX, opcode $E8 (R188). -/
def execInx (s : State) : Result := .next (s.replaceX s.wXY (s.regX s.wXY + 1#s.wXY.bits))

/-- INY, opcode $C8 (R189). -/
def execIny (s : State) : Result := .next (s.replaceY s.wXY (s.regY s.wXY + 1#s.wXY.bits))

/-- DEC, opcode $3A (R190). -/
def execDecAcc (s : State) : Result := .next (s.decrement s.wA .acc)

/-- DEC dp, opcode $C6 (R190). -/
def execDecDp (dp : Byte) (s : State) : Result := .next (s.decrement s.wA (.mem (.dp dp)))

/-- DEC addr, opcode $CE (R190). -/
def execDecAddr (addr : Word) (s : State) : Result := .next (s.decrement s.wA (.mem (.addr addr)))

/-- DEC dp,X, opcode $D6 (R190). -/
def execDecDpX (dp : Byte) (s : State) : Result := .next (s.decrement s.wA (.mem (.dpX dp)))

/-- DEC addr,X, opcode $DE (R190). -/
def execDecAddrX (addr : Word) (s : State) : Result := .next (s.decrement s.wA (.mem (.addrX addr)))

/-- DEX, opcode $CA (R191). -/
def execDex (s : State) : Result := .next (s.replaceX s.wXY (s.regX s.wXY - 1#s.wXY.bits))

/-- DEY, opcode $88 (R192). -/
def execDey (s : State) : Result := .next (s.replaceY s.wXY (s.regY s.wXY - 1#s.wXY.bits))

end Sys2Proof.Machine
end

