-- ==== Sys2Proof/Machine/Branch.lean ====
section
/-! DEFINITION. Branches, JMP, JSR JSL, RTS RTL (spec/45_branch_jump_call.md). -/

namespace Sys2Proof.Machine

/-! ### Shared operations -/

/-- A branch of two bytes: to the target when the condition holds, else to the next instruction (R230). -/
def State.branchIf (s : State) (cond : Bool) (disp : Byte) : State :=
  s.jump (if cond then s.nearTarget disp else s.pcNext 2)

/-- JSR pushes the address of its own last byte (R246). -/
def State.pushReturn (s : State) (r : StackRule) (len : Nat) : State := s.push16 r (s.pcNext (len - 1))

/-! ### Branches -/

/-- BPL near, opcode $10 (R231). -/
def execBpl (disp : Byte) (s : State) : Result := .next (s.branchIf (!s.flag .n) disp)

/-- BMI near, opcode $30 (R232). -/
def execBmi (disp : Byte) (s : State) : Result := .next (s.branchIf (s.flag .n) disp)

/-- BVC near, opcode $50 (R233). -/
def execBvc (disp : Byte) (s : State) : Result := .next (s.branchIf (!s.flag .v) disp)

/-- BVS near, opcode $70 (R234). -/
def execBvs (disp : Byte) (s : State) : Result := .next (s.branchIf (s.flag .v) disp)

/-- BRA near, opcode $80 (R235). -/
def execBra (disp : Byte) (s : State) : Result := .next (s.branchIf true disp)

/-- BCC near, opcode $90 (R237). -/
def execBcc (disp : Byte) (s : State) : Result := .next (s.branchIf (!s.flag .c) disp)

/-- BCS near, opcode $B0 (R238). -/
def execBcs (disp : Byte) (s : State) : Result := .next (s.branchIf (s.flag .c) disp)

/-- BNE near, opcode $D0 (R239). -/
def execBne (disp : Byte) (s : State) : Result := .next (s.branchIf (!s.flag .z) disp)

/-- BEQ near, opcode $F0 (R240). -/
def execBeq (disp : Byte) (s : State) : Result := .next (s.branchIf (s.flag .z) disp)

/-- BRL addr, opcode $82 (R236). -/
def execBrl (disp : Word) (s : State) : Result := .next (s.jump (s.rel16Target disp))

/-! ### Jumps -/

/-- JMP addr, opcode $4C (R241). -/
def execJmpAddr (addr : Word) (s : State) : Result := .next (s.jump addr)

/-- JMP long, opcode $5C (R242). -/
def execJmpLong (long : Addr) (s : State) : Result := .next (s.jumpLong long)

/-- JMP (addr), opcode $6C (R243). -/
def execJmpIndAddr (addr : Word) (s : State) : Result := .next (s.jump (s.readWord0 .pointer addr))

/-- JMP (addr,X), opcode $7C (R244). -/
def execJmpIndAddrX (addr : Word) (s : State) : Result := .next (s.jump (s.readProgramWord (s.indexedPointer addr)))

/-- JMP [addr], opcode $DC (R245). -/
def execJmpLongIndAddr (addr : Word) (s : State) : Result := .next (s.jumpLong (s.readLong0 addr))

/-! ### Calls and returns; JSL, RTL and JSR (addr,X) move S by the free rule (R311) -/

/-- JSR addr, opcode $20 (R246). -/
def execJsrAddr (addr : Word) (s : State) : Result := .next ((s.pushReturn .page 3).jump addr)

/-- JSR (addr,X), opcode $FC (R248). -/
def execJsrIndAddrX (addr : Word) (s : State) : Result :=
  let pushed := s.pushReturn .free 3
  .next ((pushed.jump (pushed.readProgramWord (pushed.indexedPointer addr))).restoreStackPage)

/-- JSL long, opcode $22 (R247). -/
def execJsl (long : Addr) (s : State) : Result :=
  .next ((((s.push8 .free s.pbr).pushReturn .free 4).jumpLong long).restoreStackPage)

/-- RTS, opcode $60 (R249). -/
def execRts (s : State) : Result := let counter := s.pull16 .page
  .next (counter.2.jump (counter.1 + 1#16))

/-- RTL, opcode $6B (R250). -/
def execRtl (s : State) : Result :=
  let counter := s.pull16 .free
  let bank := counter.2.pull8 .free
  .next (State.restoreStackPage { bank.2 with pbr := bank.1, pc := counter.1 + 1#16 })

end Sys2Proof.Machine
end

