-- ==== Sys2Proof/Machine/LoadStore.lean ====
section
/-! DEFINITION. Loads and stores: LDA LDX LDY STA STX STY STZ (spec/41_load_store.md). -/

namespace Sys2Proof.Machine

/-! ### Shared operations -/

/-- LDA of an operand at width w (R160). -/
def State.loadAcc (s : State) (w : Width) (o : Operand) : State :=
  let v := o.read s w
  ((s.setAcc w v).setNZ v).advance (o.length w)

/-- LDX of an operand at width w (R161). -/
def State.loadX (s : State) (w : Width) (o : Operand) : State :=
  let v := o.read s w
  ((s.setX w v).setNZ v).advance (o.length w)

/-- LDY of an operand at width w (R162). -/
def State.loadY (s : State) (w : Width) (o : Operand) : State :=
  let v := o.read s w
  ((s.setY w v).setNZ v).advance (o.length w)

/-- A plain store of a value at width w (R163 to R166): no flag is written. -/
def State.store (s : State) (w : Width) (f : MemForm) (v : BitVec w.bits) : State :=
  (s.writeOp (f.loc s) w v).advance f.length

/-! ### Loads -/

/-- LDA (dp,X), opcode $A1 (R160). -/
def execLdaIndDpX (dp : Byte) (s : State) : Result := .next (s.loadAcc s.wA (.mem (.indDpX dp)))

/-- LDA sr,S, opcode $A3 (R160). -/
def execLdaSr (sr : Byte) (s : State) : Result := .next (s.loadAcc s.wA (.mem (.sr sr)))

/-- LDA dp, opcode $A5 (R160). -/
def execLdaDp (dp : Byte) (s : State) : Result := .next (s.loadAcc s.wA (.mem (.dp dp)))

/-- LDA [dp], opcode $A7 (R160). -/
def execLdaLongIndDp (dp : Byte) (s : State) : Result := .next (s.loadAcc s.wA (.mem (.longIndDp dp)))

/-- LDA const, opcode $A9 (R160). -/
def execLdaConst (const : Word) (s : State) : Result := .next (s.loadAcc s.wA (.const const))

/-- LDA addr, opcode $AD (R160). -/
def execLdaAddr (addr : Word) (s : State) : Result := .next (s.loadAcc s.wA (.mem (.addr addr)))

/-- LDA long, opcode $AF (R160). -/
def execLdaLong (long : Addr) (s : State) : Result := .next (s.loadAcc s.wA (.mem (.long long)))

/-- LDA (dp),Y, opcode $B1 (R160). -/
def execLdaIndDpY (dp : Byte) (s : State) : Result := .next (s.loadAcc s.wA (.mem (.indDpY dp)))

/-- LDA (dp), opcode $B2 (R160). -/
def execLdaIndDp (dp : Byte) (s : State) : Result := .next (s.loadAcc s.wA (.mem (.indDp dp)))

/-- LDA (sr,S),Y, opcode $B3 (R160). -/
def execLdaIndSrY (sr : Byte) (s : State) : Result := .next (s.loadAcc s.wA (.mem (.indSrY sr)))

/-- LDA dp,X, opcode $B5 (R160). -/
def execLdaDpX (dp : Byte) (s : State) : Result := .next (s.loadAcc s.wA (.mem (.dpX dp)))

/-- LDA [dp],Y, opcode $B7 (R160). -/
def execLdaLongIndDpY (dp : Byte) (s : State) : Result := .next (s.loadAcc s.wA (.mem (.longIndDpY dp)))

/-- LDA addr,Y, opcode $B9 (R160). -/
def execLdaAddrY (addr : Word) (s : State) : Result := .next (s.loadAcc s.wA (.mem (.addrY addr)))

/-- LDA addr,X, opcode $BD (R160). -/
def execLdaAddrX (addr : Word) (s : State) : Result := .next (s.loadAcc s.wA (.mem (.addrX addr)))

/-- LDA long,X, opcode $BF (R160). -/
def execLdaLongX (long : Addr) (s : State) : Result := .next (s.loadAcc s.wA (.mem (.longX long)))

/-- LDX const, opcode $A2 (R161). -/
def execLdxConst (const : Word) (s : State) : Result := .next (s.loadX s.wXY (.const const))

/-- LDX dp, opcode $A6 (R161). -/
def execLdxDp (dp : Byte) (s : State) : Result := .next (s.loadX s.wXY (.mem (.dp dp)))

/-- LDX addr, opcode $AE (R161). -/
def execLdxAddr (addr : Word) (s : State) : Result := .next (s.loadX s.wXY (.mem (.addr addr)))

/-- LDX dp,Y, opcode $B6 (R161). -/
def execLdxDpY (dp : Byte) (s : State) : Result := .next (s.loadX s.wXY (.mem (.dpY dp)))

/-- LDX addr,Y, opcode $BE (R161). -/
def execLdxAddrY (addr : Word) (s : State) : Result := .next (s.loadX s.wXY (.mem (.addrY addr)))

/-- LDY const, opcode $A0 (R162). -/
def execLdyConst (const : Word) (s : State) : Result := .next (s.loadY s.wXY (.const const))

/-- LDY dp, opcode $A4 (R162). -/
def execLdyDp (dp : Byte) (s : State) : Result := .next (s.loadY s.wXY (.mem (.dp dp)))

/-- LDY addr, opcode $AC (R162). -/
def execLdyAddr (addr : Word) (s : State) : Result := .next (s.loadY s.wXY (.mem (.addr addr)))

/-- LDY dp,X, opcode $B4 (R162). -/
def execLdyDpX (dp : Byte) (s : State) : Result := .next (s.loadY s.wXY (.mem (.dpX dp)))

/-- LDY addr,X, opcode $BC (R162). -/
def execLdyAddrX (addr : Word) (s : State) : Result := .next (s.loadY s.wXY (.mem (.addrX addr)))

/-! ### Stores -/

/-- STA (dp,X), opcode $81 (R163). -/
def execStaIndDpX (dp : Byte) (s : State) : Result := .next (s.store s.wA (.indDpX dp) (s.acc s.wA))

/-- STA sr,S, opcode $83 (R163). -/
def execStaSr (sr : Byte) (s : State) : Result := .next (s.store s.wA (.sr sr) (s.acc s.wA))

/-- STA dp, opcode $85 (R163). -/
def execStaDp (dp : Byte) (s : State) : Result := .next (s.store s.wA (.dp dp) (s.acc s.wA))

/-- STA [dp], opcode $87 (R163). -/
def execStaLongIndDp (dp : Byte) (s : State) : Result := .next (s.store s.wA (.longIndDp dp) (s.acc s.wA))

/-- STA addr, opcode $8D (R163). -/
def execStaAddr (addr : Word) (s : State) : Result := .next (s.store s.wA (.addr addr) (s.acc s.wA))

/-- STA long, opcode $8F (R163). -/
def execStaLong (long : Addr) (s : State) : Result := .next (s.store s.wA (.long long) (s.acc s.wA))

/-- STA (dp),Y, opcode $91 (R163). -/
def execStaIndDpY (dp : Byte) (s : State) : Result := .next (s.store s.wA (.indDpY dp) (s.acc s.wA))

/-- STA (dp), opcode $92 (R163). -/
def execStaIndDp (dp : Byte) (s : State) : Result := .next (s.store s.wA (.indDp dp) (s.acc s.wA))

/-- STA (sr,S),Y, opcode $93 (R163). -/
def execStaIndSrY (sr : Byte) (s : State) : Result := .next (s.store s.wA (.indSrY sr) (s.acc s.wA))

/-- STA dp,X, opcode $95 (R163). -/
def execStaDpX (dp : Byte) (s : State) : Result := .next (s.store s.wA (.dpX dp) (s.acc s.wA))

/-- STA [dp],Y, opcode $97 (R163). -/
def execStaLongIndDpY (dp : Byte) (s : State) : Result := .next (s.store s.wA (.longIndDpY dp) (s.acc s.wA))

/-- STA addr,Y, opcode $99 (R163). -/
def execStaAddrY (addr : Word) (s : State) : Result := .next (s.store s.wA (.addrY addr) (s.acc s.wA))

/-- STA addr,X, opcode $9D (R163). -/
def execStaAddrX (addr : Word) (s : State) : Result := .next (s.store s.wA (.addrX addr) (s.acc s.wA))

/-- STA long,X, opcode $9F (R163). -/
def execStaLongX (long : Addr) (s : State) : Result := .next (s.store s.wA (.longX long) (s.acc s.wA))

/-- STX dp, opcode $86 (R164). -/
def execStxDp (dp : Byte) (s : State) : Result := .next (s.store s.wXY (.dp dp) (s.regX s.wXY))

/-- STX addr, opcode $8E (R164). -/
def execStxAddr (addr : Word) (s : State) : Result := .next (s.store s.wXY (.addr addr) (s.regX s.wXY))

/-- STX dp,Y, opcode $96 (R164). -/
def execStxDpY (dp : Byte) (s : State) : Result := .next (s.store s.wXY (.dpY dp) (s.regX s.wXY))

/-- STY dp, opcode $84 (R165). -/
def execStyDp (dp : Byte) (s : State) : Result := .next (s.store s.wXY (.dp dp) (s.regY s.wXY))

/-- STY addr, opcode $8C (R165). -/
def execStyAddr (addr : Word) (s : State) : Result := .next (s.store s.wXY (.addr addr) (s.regY s.wXY))

/-- STY dp,X, opcode $94 (R165). -/
def execStyDpX (dp : Byte) (s : State) : Result := .next (s.store s.wXY (.dpX dp) (s.regY s.wXY))

/-- STZ dp, opcode $64 (R166). -/
def execStzDp (dp : Byte) (s : State) : Result := .next (s.store s.wA (.dp dp) 0#s.wA.bits)

/-- STZ dp,X, opcode $74 (R166). -/
def execStzDpX (dp : Byte) (s : State) : Result := .next (s.store s.wA (.dpX dp) 0#s.wA.bits)

/-- STZ addr, opcode $9C (R166). -/
def execStzAddr (addr : Word) (s : State) : Result := .next (s.store s.wA (.addr addr) 0#s.wA.bits)

/-- STZ addr,X, opcode $9E (R166). -/
def execStzAddrX (addr : Word) (s : State) : Result := .next (s.store s.wA (.addrX addr) 0#s.wA.bits)

end Sys2Proof.Machine
end

