-- ==== Sys2Proof/Machine/Logic.lean ====
section
/-! DEFINITION. AND ORA EOR, BIT, CMP CPX CPY (spec/43_logic_bit_compare.md). -/

namespace Sys2Proof.Machine

/-! ### Shared operations -/

/-- The accumulator replaced by the result of a bitwise operation, with n and z (R200 to R202). -/
def State.replaceAcc (s : State) (w : Width) (r : BitVec w.bits) (len : Nat) : State :=
  ((s.setAcc w r).setNZ r).advance len

/-- AND of an operand at width w (R200). -/
def State.andAcc (s : State) (w : Width) (o : Operand) : State :=
  s.replaceAcc w (s.acc w &&& o.read s w) (o.length w)

/-- ORA of an operand at width w (R201). -/
def State.orAcc (s : State) (w : Width) (o : Operand) : State :=
  s.replaceAcc w (s.acc w ||| o.read s w) (o.length w)

/-- EOR of an operand at width w (R202). -/
def State.xorAcc (s : State) (w : Width) (o : Operand) : State :=
  s.replaceAcc w (s.acc w ^^^ o.read s w) (o.length w)

/-- z of BIT: no bit is set in both the accumulator and the operand (R203). -/
def State.testBits (s : State) (w : Width) (mv : BitVec w.bits) : State :=
  s.setFlag .z ((s.acc w &&& mv) == 0#w.bits)

/-- BIT of a memory operand: n and v are the top two bits of the operand itself (R203). -/
def State.bitMemory (s : State) (w : Width) (f : MemForm) : State :=
  let mv := s.readOp (f.loc s) w
  (((s.testBits w mv).setFlag .n mv.msb).setFlag .v (mv.getLsbD (w.bits - 2))).advance f.length

/-- BIT of a constant: z only (R203, 90_conflicts.md C7, log 10). -/
def State.bitConstant (s : State) (w : Width) (const : Word) : State :=
  (s.testBits w (const.setWidth w.bits)).advance (Operand.length (.const const) w)

/-- A comparison of a register with an operand (R207). -/
def State.compare (s : State) (w : Width) (reg : BitVec w.bits) (o : Operand) : State :=
  (s.compareFlags reg (o.read s w)).advance (o.length w)

/-! ### Logic -/

/-- AND (dp,X), opcode $21 (R200). -/
def execAndIndDpX (dp : Byte) (s : State) : Result := .next (s.andAcc s.wA (.mem (.indDpX dp)))

/-- AND sr,S, opcode $23 (R200). -/
def execAndSr (sr : Byte) (s : State) : Result := .next (s.andAcc s.wA (.mem (.sr sr)))

/-- AND dp, opcode $25 (R200). -/
def execAndDp (dp : Byte) (s : State) : Result := .next (s.andAcc s.wA (.mem (.dp dp)))

/-- AND [dp], opcode $27 (R200). -/
def execAndLongIndDp (dp : Byte) (s : State) : Result := .next (s.andAcc s.wA (.mem (.longIndDp dp)))

/-- AND const, opcode $29 (R200). -/
def execAndConst (const : Word) (s : State) : Result := .next (s.andAcc s.wA (.const const))

/-- AND addr, opcode $2D (R200). -/
def execAndAddr (addr : Word) (s : State) : Result := .next (s.andAcc s.wA (.mem (.addr addr)))

/-- AND long, opcode $2F (R200). -/
def execAndLong (long : Addr) (s : State) : Result := .next (s.andAcc s.wA (.mem (.long long)))

/-- AND (dp),Y, opcode $31 (R200). -/
def execAndIndDpY (dp : Byte) (s : State) : Result := .next (s.andAcc s.wA (.mem (.indDpY dp)))

/-- AND (dp), opcode $32 (R200). -/
def execAndIndDp (dp : Byte) (s : State) : Result := .next (s.andAcc s.wA (.mem (.indDp dp)))

/-- AND (sr,S),Y, opcode $33 (R200). -/
def execAndIndSrY (sr : Byte) (s : State) : Result := .next (s.andAcc s.wA (.mem (.indSrY sr)))

/-- AND dp,X, opcode $35 (R200). -/
def execAndDpX (dp : Byte) (s : State) : Result := .next (s.andAcc s.wA (.mem (.dpX dp)))

/-- AND [dp],Y, opcode $37 (R200). -/
def execAndLongIndDpY (dp : Byte) (s : State) : Result := .next (s.andAcc s.wA (.mem (.longIndDpY dp)))

/-- AND addr,Y, opcode $39 (R200). -/
def execAndAddrY (addr : Word) (s : State) : Result := .next (s.andAcc s.wA (.mem (.addrY addr)))

/-- AND addr,X, opcode $3D (R200). -/
def execAndAddrX (addr : Word) (s : State) : Result := .next (s.andAcc s.wA (.mem (.addrX addr)))

/-- AND long,X, opcode $3F (R200). -/
def execAndLongX (long : Addr) (s : State) : Result := .next (s.andAcc s.wA (.mem (.longX long)))

/-- ORA (dp,X), opcode $01 (R201). -/
def execOraIndDpX (dp : Byte) (s : State) : Result := .next (s.orAcc s.wA (.mem (.indDpX dp)))

/-- ORA sr,S, opcode $03 (R201). -/
def execOraSr (sr : Byte) (s : State) : Result := .next (s.orAcc s.wA (.mem (.sr sr)))

/-- ORA dp, opcode $05 (R201). -/
def execOraDp (dp : Byte) (s : State) : Result := .next (s.orAcc s.wA (.mem (.dp dp)))

/-- ORA [dp], opcode $07 (R201). -/
def execOraLongIndDp (dp : Byte) (s : State) : Result := .next (s.orAcc s.wA (.mem (.longIndDp dp)))

/-- ORA const, opcode $09 (R201). -/
def execOraConst (const : Word) (s : State) : Result := .next (s.orAcc s.wA (.const const))

/-- ORA addr, opcode $0D (R201). -/
def execOraAddr (addr : Word) (s : State) : Result := .next (s.orAcc s.wA (.mem (.addr addr)))

/-- ORA long, opcode $0F (R201). -/
def execOraLong (long : Addr) (s : State) : Result := .next (s.orAcc s.wA (.mem (.long long)))

/-- ORA (dp),Y, opcode $11 (R201). -/
def execOraIndDpY (dp : Byte) (s : State) : Result := .next (s.orAcc s.wA (.mem (.indDpY dp)))

/-- ORA (dp), opcode $12 (R201). -/
def execOraIndDp (dp : Byte) (s : State) : Result := .next (s.orAcc s.wA (.mem (.indDp dp)))

/-- ORA (sr,S),Y, opcode $13 (R201). -/
def execOraIndSrY (sr : Byte) (s : State) : Result := .next (s.orAcc s.wA (.mem (.indSrY sr)))

/-- ORA dp,X, opcode $15 (R201). -/
def execOraDpX (dp : Byte) (s : State) : Result := .next (s.orAcc s.wA (.mem (.dpX dp)))

/-- ORA [dp],Y, opcode $17 (R201). -/
def execOraLongIndDpY (dp : Byte) (s : State) : Result := .next (s.orAcc s.wA (.mem (.longIndDpY dp)))

/-- ORA addr,Y, opcode $19 (R201). -/
def execOraAddrY (addr : Word) (s : State) : Result := .next (s.orAcc s.wA (.mem (.addrY addr)))

/-- ORA addr,X, opcode $1D (R201). -/
def execOraAddrX (addr : Word) (s : State) : Result := .next (s.orAcc s.wA (.mem (.addrX addr)))

/-- ORA long,X, opcode $1F (R201). -/
def execOraLongX (long : Addr) (s : State) : Result := .next (s.orAcc s.wA (.mem (.longX long)))

/-- EOR (dp,X), opcode $41 (R202). -/
def execEorIndDpX (dp : Byte) (s : State) : Result := .next (s.xorAcc s.wA (.mem (.indDpX dp)))

/-- EOR sr,S, opcode $43 (R202). -/
def execEorSr (sr : Byte) (s : State) : Result := .next (s.xorAcc s.wA (.mem (.sr sr)))

/-- EOR dp, opcode $45 (R202). -/
def execEorDp (dp : Byte) (s : State) : Result := .next (s.xorAcc s.wA (.mem (.dp dp)))

/-- EOR [dp], opcode $47 (R202). -/
def execEorLongIndDp (dp : Byte) (s : State) : Result := .next (s.xorAcc s.wA (.mem (.longIndDp dp)))

/-- EOR const, opcode $49 (R202). -/
def execEorConst (const : Word) (s : State) : Result := .next (s.xorAcc s.wA (.const const))

/-- EOR addr, opcode $4D (R202). -/
def execEorAddr (addr : Word) (s : State) : Result := .next (s.xorAcc s.wA (.mem (.addr addr)))

/-- EOR long, opcode $4F (R202). -/
def execEorLong (long : Addr) (s : State) : Result := .next (s.xorAcc s.wA (.mem (.long long)))

/-- EOR (dp),Y, opcode $51 (R202). -/
def execEorIndDpY (dp : Byte) (s : State) : Result := .next (s.xorAcc s.wA (.mem (.indDpY dp)))

/-- EOR (dp), opcode $52 (R202). -/
def execEorIndDp (dp : Byte) (s : State) : Result := .next (s.xorAcc s.wA (.mem (.indDp dp)))

/-- EOR (sr,S),Y, opcode $53 (R202). -/
def execEorIndSrY (sr : Byte) (s : State) : Result := .next (s.xorAcc s.wA (.mem (.indSrY sr)))

/-- EOR dp,X, opcode $55 (R202). -/
def execEorDpX (dp : Byte) (s : State) : Result := .next (s.xorAcc s.wA (.mem (.dpX dp)))

/-- EOR [dp],Y, opcode $57 (R202). -/
def execEorLongIndDpY (dp : Byte) (s : State) : Result := .next (s.xorAcc s.wA (.mem (.longIndDpY dp)))

/-- EOR addr,Y, opcode $59 (R202). -/
def execEorAddrY (addr : Word) (s : State) : Result := .next (s.xorAcc s.wA (.mem (.addrY addr)))

/-- EOR addr,X, opcode $5D (R202). -/
def execEorAddrX (addr : Word) (s : State) : Result := .next (s.xorAcc s.wA (.mem (.addrX addr)))

/-- EOR long,X, opcode $5F (R202). -/
def execEorLongX (long : Addr) (s : State) : Result := .next (s.xorAcc s.wA (.mem (.longX long)))

/-! ### BIT -/

/-- BIT dp, opcode $24 (R203). -/
def execBitDp (dp : Byte) (s : State) : Result := .next (s.bitMemory s.wA (.dp dp))

/-- BIT addr, opcode $2C (R203). -/
def execBitAddr (addr : Word) (s : State) : Result := .next (s.bitMemory s.wA (.addr addr))

/-- BIT dp,X, opcode $34 (R203). -/
def execBitDpX (dp : Byte) (s : State) : Result := .next (s.bitMemory s.wA (.dpX dp))

/-- BIT addr,X, opcode $3C (R203). -/
def execBitAddrX (addr : Word) (s : State) : Result := .next (s.bitMemory s.wA (.addrX addr))

/-- BIT const, opcode $89 (R203). -/
def execBitConst (const : Word) (s : State) : Result := .next (s.bitConstant s.wA const)

/-! ### Comparisons -/

/-- CMP (dp,X), opcode $C1 (R204). -/
def execCmpIndDpX (dp : Byte) (s : State) : Result := .next (s.compare s.wA (s.acc s.wA) (.mem (.indDpX dp)))

/-- CMP sr,S, opcode $C3 (R204). -/
def execCmpSr (sr : Byte) (s : State) : Result := .next (s.compare s.wA (s.acc s.wA) (.mem (.sr sr)))

/-- CMP dp, opcode $C5 (R204). -/
def execCmpDp (dp : Byte) (s : State) : Result := .next (s.compare s.wA (s.acc s.wA) (.mem (.dp dp)))

/-- CMP [dp], opcode $C7 (R204). -/
def execCmpLongIndDp (dp : Byte) (s : State) : Result := .next (s.compare s.wA (s.acc s.wA) (.mem (.longIndDp dp)))

/-- CMP const, opcode $C9 (R204). -/
def execCmpConst (const : Word) (s : State) : Result := .next (s.compare s.wA (s.acc s.wA) (.const const))

/-- CMP addr, opcode $CD (R204). -/
def execCmpAddr (addr : Word) (s : State) : Result := .next (s.compare s.wA (s.acc s.wA) (.mem (.addr addr)))

/-- CMP long, opcode $CF (R204). -/
def execCmpLong (long : Addr) (s : State) : Result := .next (s.compare s.wA (s.acc s.wA) (.mem (.long long)))

/-- CMP (dp),Y, opcode $D1 (R204). -/
def execCmpIndDpY (dp : Byte) (s : State) : Result := .next (s.compare s.wA (s.acc s.wA) (.mem (.indDpY dp)))

/-- CMP (dp), opcode $D2 (R204). -/
def execCmpIndDp (dp : Byte) (s : State) : Result := .next (s.compare s.wA (s.acc s.wA) (.mem (.indDp dp)))

/-- CMP (sr,S),Y, opcode $D3 (R204). -/
def execCmpIndSrY (sr : Byte) (s : State) : Result := .next (s.compare s.wA (s.acc s.wA) (.mem (.indSrY sr)))

/-- CMP dp,X, opcode $D5 (R204). -/
def execCmpDpX (dp : Byte) (s : State) : Result := .next (s.compare s.wA (s.acc s.wA) (.mem (.dpX dp)))

/-- CMP [dp],Y, opcode $D7 (R204). -/
def execCmpLongIndDpY (dp : Byte) (s : State) : Result := .next (s.compare s.wA (s.acc s.wA) (.mem (.longIndDpY dp)))

/-- CMP addr,Y, opcode $D9 (R204). -/
def execCmpAddrY (addr : Word) (s : State) : Result := .next (s.compare s.wA (s.acc s.wA) (.mem (.addrY addr)))

/-- CMP addr,X, opcode $DD (R204). -/
def execCmpAddrX (addr : Word) (s : State) : Result := .next (s.compare s.wA (s.acc s.wA) (.mem (.addrX addr)))

/-- CMP long,X, opcode $DF (R204). -/
def execCmpLongX (long : Addr) (s : State) : Result := .next (s.compare s.wA (s.acc s.wA) (.mem (.longX long)))

/-- CPX const, opcode $E0 (R205). -/
def execCpxConst (const : Word) (s : State) : Result := .next (s.compare s.wXY (s.regX s.wXY) (.const const))

/-- CPX dp, opcode $E4 (R205). -/
def execCpxDp (dp : Byte) (s : State) : Result := .next (s.compare s.wXY (s.regX s.wXY) (.mem (.dp dp)))

/-- CPX addr, opcode $EC (R205). -/
def execCpxAddr (addr : Word) (s : State) : Result := .next (s.compare s.wXY (s.regX s.wXY) (.mem (.addr addr)))

/-- CPY const, opcode $C0 (R206). -/
def execCpyConst (const : Word) (s : State) : Result := .next (s.compare s.wXY (s.regY s.wXY) (.const const))

/-- CPY dp, opcode $C4 (R206). -/
def execCpyDp (dp : Byte) (s : State) : Result := .next (s.compare s.wXY (s.regY s.wXY) (.mem (.dp dp)))

/-- CPY addr, opcode $CC (R206). -/
def execCpyAddr (addr : Word) (s : State) : Result := .next (s.compare s.wXY (s.regY s.wXY) (.mem (.addr addr)))

end Sys2Proof.Machine
end

