-- ==== Sys2Proof/Machine/Mode.lean ====
section
/-! DEFINITION. NOP, REP SEP, XBA, XCE (spec/48_nop_rep_sep_xba_xce.md). -/

namespace Sys2Proof.Machine

/-- NOP, opcode $EA (R320). -/
def execNop (s : State) : Result := .next (s.advance 1)

/-- REP const, opcode $C2 (R321). -/
def execRep (const : Byte) (s : State) : Result := .next ((s.writeP (s.p &&& ~~~const)).advance 2)

/-- SEP const, opcode $E2 (R322). -/
def execSep (const : Byte) (s : State) : Result := .next ((s.writeP (s.p ||| const)).advance 2)

/-- XBA, opcode $EB (R323). -/
def execXba (s : State) : Result := .next ((State.setNZ { s with c := joinWord (lo s.c) (hi s.c) } (hi s.c)).advance 1)

/-- XCE, opcode $FB (R324). -/
def execXce (s : State) : Result :=
  let swapped : State := { s with e := s.flag .c, p := withFlag s.p .c s.e }
  .next (swapped.enforceMode.advance 1)

end Sys2Proof.Machine
end

