-- ==== Sys2Proof/Machine/Shift.lean ====
section
/-! DEFINITION. LSR ASL ROL ROR (spec/44_shift_rotate.md). -/

namespace Sys2Proof.Machine

/-- A shift or rotate: the result goes back where the operand came from, with c, n and z (R224). n of LSR is 0 because a
zero enters at the top (R220, 90_conflicts.md C11). -/
def State.shiftTarget (s : State) (w : Width) (t : Target) (o : ShiftOutcome w.bits) : State :=
  ((t.write s w o.value).setShiftFlags o).advance t.length

/-- LSR dp, opcode $46 (R220). -/
def execLsrDp (dp : Byte) (s : State) : Result :=
  .next (s.shiftTarget s.wA (.mem (.dp dp)) (shiftRight (Target.read (.mem (.dp dp)) s s.wA)))

/-- LSR, opcode $4A (R220). -/
def execLsrAcc (s : State) : Result := .next (s.shiftTarget s.wA .acc (shiftRight (Target.read .acc s s.wA)))

/-- LSR addr, opcode $4E (R220). -/
def execLsrAddr (addr : Word) (s : State) : Result :=
  .next (s.shiftTarget s.wA (.mem (.addr addr)) (shiftRight (Target.read (.mem (.addr addr)) s s.wA)))

/-- LSR dp,X, opcode $56 (R220). -/
def execLsrDpX (dp : Byte) (s : State) : Result :=
  .next (s.shiftTarget s.wA (.mem (.dpX dp)) (shiftRight (Target.read (.mem (.dpX dp)) s s.wA)))

/-- LSR addr,X, opcode $5E (R220). -/
def execLsrAddrX (addr : Word) (s : State) : Result :=
  .next (s.shiftTarget s.wA (.mem (.addrX addr)) (shiftRight (Target.read (.mem (.addrX addr)) s s.wA)))

/-- ASL dp, opcode $06 (R221). -/
def execAslDp (dp : Byte) (s : State) : Result :=
  .next (s.shiftTarget s.wA (.mem (.dp dp)) (shiftLeft (Target.read (.mem (.dp dp)) s s.wA)))

/-- ASL, opcode $0A (R221). -/
def execAslAcc (s : State) : Result := .next (s.shiftTarget s.wA .acc (shiftLeft (Target.read .acc s s.wA)))

/-- ASL addr, opcode $0E (R221). -/
def execAslAddr (addr : Word) (s : State) : Result :=
  .next (s.shiftTarget s.wA (.mem (.addr addr)) (shiftLeft (Target.read (.mem (.addr addr)) s s.wA)))

/-- ASL dp,X, opcode $16 (R221). -/
def execAslDpX (dp : Byte) (s : State) : Result :=
  .next (s.shiftTarget s.wA (.mem (.dpX dp)) (shiftLeft (Target.read (.mem (.dpX dp)) s s.wA)))

/-- ASL addr,X, opcode $1E (R221). -/
def execAslAddrX (addr : Word) (s : State) : Result :=
  .next (s.shiftTarget s.wA (.mem (.addrX addr)) (shiftLeft (Target.read (.mem (.addrX addr)) s s.wA)))

/-- ROL dp, opcode $26 (R222). -/
def execRolDp (dp : Byte) (s : State) : Result :=
  .next (s.shiftTarget s.wA (.mem (.dp dp)) (rotateLeft (Target.read (.mem (.dp dp)) s s.wA) (s.flag .c)))

/-- ROL, opcode $2A (R222). -/
def execRolAcc (s : State) : Result :=
  .next (s.shiftTarget s.wA .acc (rotateLeft (Target.read .acc s s.wA) (s.flag .c)))

/-- ROL addr, opcode $2E (R222). -/
def execRolAddr (addr : Word) (s : State) : Result :=
  .next (s.shiftTarget s.wA (.mem (.addr addr)) (rotateLeft (Target.read (.mem (.addr addr)) s s.wA) (s.flag .c)))

/-- ROL dp,X, opcode $36 (R222). -/
def execRolDpX (dp : Byte) (s : State) : Result :=
  .next (s.shiftTarget s.wA (.mem (.dpX dp)) (rotateLeft (Target.read (.mem (.dpX dp)) s s.wA) (s.flag .c)))

/-- ROL addr,X, opcode $3E (R222). -/
def execRolAddrX (addr : Word) (s : State) : Result :=
  .next (s.shiftTarget s.wA (.mem (.addrX addr)) (rotateLeft (Target.read (.mem (.addrX addr)) s s.wA) (s.flag .c)))

/-- ROR dp, opcode $66 (R223). -/
def execRorDp (dp : Byte) (s : State) : Result :=
  .next (s.shiftTarget s.wA (.mem (.dp dp)) (rotateRight (Target.read (.mem (.dp dp)) s s.wA) (s.flag .c)))

/-- ROR, opcode $6A (R223). -/
def execRorAcc (s : State) : Result :=
  .next (s.shiftTarget s.wA .acc (rotateRight (Target.read .acc s s.wA) (s.flag .c)))

/-- ROR addr, opcode $6E (R223). -/
def execRorAddr (addr : Word) (s : State) : Result :=
  .next (s.shiftTarget s.wA (.mem (.addr addr)) (rotateRight (Target.read (.mem (.addr addr)) s s.wA) (s.flag .c)))

/-- ROR dp,X, opcode $76 (R223). -/
def execRorDpX (dp : Byte) (s : State) : Result :=
  .next (s.shiftTarget s.wA (.mem (.dpX dp)) (rotateRight (Target.read (.mem (.dpX dp)) s s.wA) (s.flag .c)))

/-- ROR addr,X, opcode $7E (R223). -/
def execRorAddrX (addr : Word) (s : State) : Result :=
  .next (s.shiftTarget s.wA (.mem (.addrX addr)) (rotateRight (Target.read (.mem (.addrX addr)) s s.wA) (s.flag .c)))

end Sys2Proof.Machine
end

