-- ==== Sys2Proof/Machine/Stack.lean ====
section
/-! DEFINITION. MVP MVN, PER PEI PEA, the pushes and pulls (spec/47_blockmove_stack.md). -/

namespace Sys2Proof.Machine

/-! ### Shared operations -/

/-- One step of a block move (R290): one byte from the source bank to the destination bank, X and Y moved by `by_` at width
wXY, C counted down over 16 bits; PC stays on the instruction until C has passed $0000. -/
def State.blockMove (s : State) (by_ : Word) (src dest : Byte) : State :=
  let t := s.readByte .data (bankAddr src s.x)
  let moved := State.writeByte { s with dbr := dest } (bankAddr dest s.y) t
  let count := s.c - 1#16
  { moved with
    x := narrow s.wXY (s.x + by_)
    y := narrow s.wXY (s.y + by_)
    c := count
    pc := if count != 0xFFFF#16 then s.pc else s.pcNext 3 }

/-- A 16-bit push of an instruction the 6502 lacks, of `len` bytes (R311): PEA, PEI, PER, PHD. -/
def State.pushWide (s : State) (v : Word) (len : Nat) : State := ((s.push16 .free v).restoreStackPage).advance len

/-- PHA, PHX, PHY at width w (R309). -/
def State.pushAtWidth (s : State) (w : Width) (v : BitVec w.bits) : State := (s.pushReg w v).advance 1

/-! ### Block moves -/

/-- MVP src,dest, opcode $44 (R291). -/
def execMvp (src : Byte) (dest : Byte) (s : State) : Result := .next (s.blockMove 0xFFFF#16 src dest)

/-- MVN src,dest, opcode $54 (R292). -/
def execMvn (src : Byte) (dest : Byte) (s : State) : Result := .next (s.blockMove 0x0001#16 src dest)

/-! ### PER PEI PEA -/

/-- PER label, opcode $62 (R293). -/
def execPer (disp : Word) (s : State) : Result := .next (s.pushWide (s.rel16Target disp) 3)

/-- PEI (dp), opcode $D4 (R294). -/
def execPei (dp : Byte) (s : State) : Result := .next (s.pushWide (s.readWord0 .data (s.directOffset dp)) 2)

/-- PEA const, opcode $F4 (R295). -/
def execPea (const : Word) (s : State) : Result := .next (s.pushWide const 3)

/-! ### Pushes -/

/-- The image of P that PHP pushes: bits $20 and $10 are 1 in emulation mode (R296, R27). -/
def State.statusImage (s : State) : Byte := if s.e then s.p ||| 0x30#8 else s.p

/-- PHP, opcode $08 (R296). -/
def execPhp (s : State) : Result := .next ((s.push8 .page s.statusImage).advance 1)

/-- PHD, opcode $0B (R297). -/
def execPhd (s : State) : Result := .next (s.pushWide s.d 1)

/-- PHA, opcode $48 (R298). -/
def execPha (s : State) : Result := .next (s.pushAtWidth s.wA (s.acc s.wA))

/-- PHK, opcode $4B (R299). -/
def execPhk (s : State) : Result := .next ((s.push8 .page s.pbr).advance 1)

/-- PHY, opcode $5A (R300). -/
def execPhy (s : State) : Result := .next (s.pushAtWidth s.wXY (s.regY s.wXY))

/-- PHB, opcode $8B (R301). -/
def execPhb (s : State) : Result := .next ((s.push8 .page s.dbr).advance 1)

/-- PHX, opcode $DA (R302). -/
def execPhx (s : State) : Result := .next (s.pushAtWidth s.wXY (s.regX s.wXY))

/-! ### Pulls -/

/-- PLP, opcode $28 (R303). -/
def execPlp (s : State) : Result := let pulled := s.pull8 .page
  .next ((pulled.2.writeP pulled.1).advance 1)

/-- PLD, opcode $2B (R304). -/
def execPld (s : State) : Result :=
  let pulled := s.pull16 .free
  .next (((State.setNZ { pulled.2 with d := pulled.1 } pulled.1).restoreStackPage).advance 1)

/-- PLA, opcode $68 (R305). -/
def execPla (s : State) : Result :=
  let pulled := s.pullReg s.wA
  .next (((pulled.2.setAcc s.wA pulled.1).setNZ pulled.1).advance 1)

/-- PLY, opcode $7A (R306). -/
def execPly (s : State) : Result :=
  let pulled := s.pullReg s.wXY
  .next (((pulled.2.setY s.wXY pulled.1).setNZ pulled.1).advance 1)

/-- PLB, opcode $AB (R307). -/
def execPlb (s : State) : Result :=
  let pulled := s.pull8 .free
  .next (((State.setNZ { pulled.2 with dbr := pulled.1 } pulled.1).restoreStackPage).advance 1)

/-- PLX, opcode $FA (R308). -/
def execPlx (s : State) : Result :=
  let pulled := s.pullReg s.wXY
  .next (((pulled.2.setX s.wXY pulled.1).setNZ pulled.1).advance 1)

end Sys2Proof.Machine
end

