-- ==== Sys2Proof/Machine/System.lean ====
section
/-! DEFINITION. BRK COP RTI WAI STP and opcode $42 (spec/49_misc.md). The signature byte is fetched and ignored (R96). -/

namespace Sys2Proof.Machine

/-- BRK, opcode $00 (R330). -/
def execBrk (_signature : Byte) (s : State) : Result := .next (s.takeTrap .brk (s.pcNext 2))

/-- COP const, opcode $02 (R331). -/
def execCop (_signature : Byte) (s : State) : Result := .next (s.takeTrap .cop (s.pcNext 2))

/-- RTI, opcode $40 (R332). -/
def execRti (s : State) : Result := .next s.returnFromTrap

/-- WAI, opcode $CB (R334). -/
def execWai (s : State) : Result := .next { s with pc := s.pcNext 1, run := .waiting }

/-- STP, opcode $DB (R335). -/
def execStp (s : State) : Result := .next { s with pc := s.pcNext 1, run := .stopped }

/-- WDM const, opcode $42 (R336), the two-byte no-op of WDM_POLICY = nop2 (log 7). -/
def execWdm (_signature : Byte) (s : State) : Result := .next (s.advance 2)

end Sys2Proof.Machine
end

