-- ==== Sys2Proof/Machine/Transfer.lean ====
section
/-! DEFINITION. CLC SEC CLI SEI CLV CLD SED and the twelve transfers (spec/46_flag_transfer.md). -/

namespace Sys2Proof.Machine

/-! ### Shared operations -/

/-- The accumulator written at width w with n and z, in a one-byte instruction (R269, R271 to R273). -/
def State.transferAcc (s : State) (w : Width) (v : BitVec w.bits) : State := ((s.setAcc w v).setNZ v).advance 1

/-- X written at width w with n and z, in a one-byte instruction (R277, R278). -/
def State.transferX (s : State) (w : Width) (v : BitVec w.bits) : State := ((s.setX w v).setNZ v).advance 1

/-- Y written at width w with n and z, in a one-byte instruction (R276). -/
def State.transferY (s : State) (w : Width) (v : BitVec w.bits) : State := ((s.setY w v).setNZ v).advance 1

/-! ### Flag instructions: one flag, no other -/

/-- CLC, opcode $18 (R260). -/
def execClc (s : State) : Result := .next ((s.setFlag .c false).advance 1)

/-- SEC, opcode $38 (R261). -/
def execSec (s : State) : Result := .next ((s.setFlag .c true).advance 1)

/-- CLI, opcode $58 (R262). -/
def execCli (s : State) : Result := .next ((s.setFlag .i false).advance 1)

/-- SEI, opcode $78 (R263). -/
def execSei (s : State) : Result := .next ((s.setFlag .i true).advance 1)

/-- CLV, opcode $B8 (R264). -/
def execClv (s : State) : Result := .next ((s.setFlag .v false).advance 1)

/-- CLD, opcode $D8 (R265). -/
def execCld (s : State) : Result := .next ((s.setFlag .d false).advance 1)

/-- SED, opcode $F8 (R266). -/
def execSed (s : State) : Result := .next ((s.setFlag .d true).advance 1)

/-! ### Transfers: the width is the destination's (R267); TCS and TXS write no flag (R274, 90_conflicts.md C4, log 10) -/

/-- TCS, opcode $1B (R268). -/
def execTcs (s : State) : Result := .next ((s.setStackPointer s.c).advance 1)

/-- TSC, opcode $3B (R269). -/
def execTsc (s : State) : Result := .next (s.transferAcc .w16 s.sp)

/-- TCD, opcode $5B (R270). -/
def execTcd (s : State) : Result := .next ((State.setNZ { s with d := s.c } s.c).advance 1)

/-- TDC, opcode $7B (R271). -/
def execTdc (s : State) : Result := .next (s.transferAcc .w16 s.d)

/-- TXA, opcode $8A (R272). -/
def execTxa (s : State) : Result := .next (s.transferAcc s.wA (s.regX s.wA))

/-- TYA, opcode $98 (R273). -/
def execTya (s : State) : Result := .next (s.transferAcc s.wA (s.regY s.wA))

/-- TXS, opcode $9A (R274). -/
def execTxs (s : State) : Result := .next ((s.setStackPointer s.x).advance 1)

/-- TXY, opcode $9B (R275). -/
def execTxy (s : State) : Result := .next ((State.setNZ { s with y := s.x } (s.regX s.wXY)).advance 1)

/-- TAY, opcode $A8 (R276). -/
def execTay (s : State) : Result := .next (s.transferY s.wXY (s.acc s.wXY))

/-- TAX, opcode $AA (R277). -/
def execTax (s : State) : Result := .next (s.transferX s.wXY (s.acc s.wXY))

/-- TSX, opcode $BA (R278). -/
def execTsx (s : State) : Result := .next (s.transferX s.wXY (s.sp.setWidth s.wXY.bits))

/-- TYX, opcode $BB (R279). -/
def execTyx (s : State) : Result := .next ((State.setNZ { s with x := s.y } (s.regY s.wXY)).advance 1)

end Sys2Proof.Machine
end

