-- ==== Sys2Proof/Syntax.lean ====
section
/-! DEFINITION. The instructions of the 65816 (spec/30_encoding.md R102, opcode_table.json): one constructor per row of the
opcode table, its arguments the operand bytes of its format (R91). The rows with operand bytes stand first, then the 50
rows without (Lean's compiler numbers at most 244 constructors that have arguments); each part in the table's order. -/

namespace Sys2Proof

/-- An instruction with its operand. A `const` of variable size (R98) is held in 16 bits: with an 8-bit operand only its
low byte counts, and a well-formed one has a zero high byte (WellFormed.lean). -/
inductive Instr where
  /-- $00 BRK (R330). -/
  | brk (signature : Byte)
  /-- $01 ORA (dp,X) (R201). -/
  | oraIndDpX (dp : Byte)
  /-- $02 COP const (R331). -/
  | cop (signature : Byte)
  /-- $03 ORA sr,S (R201). -/
  | oraSr (sr : Byte)
  /-- $04 TSB dp (R181). -/
  | tsbDp (dp : Byte)
  /-- $05 ORA dp (R201). -/
  | oraDp (dp : Byte)
  /-- $06 ASL dp (R221). -/
  | aslDp (dp : Byte)
  /-- $07 ORA [dp] (R201). -/
  | oraLongIndDp (dp : Byte)
  /-- $09 ORA const (R201). -/
  | oraConst (const : Word)
  /-- $0C TSB addr (R181). -/
  | tsbAddr (addr : Word)
  /-- $0D ORA addr (R201). -/
  | oraAddr (addr : Word)
  /-- $0E ASL addr (R221). -/
  | aslAddr (addr : Word)
  /-- $0F ORA long (R201). -/
  | oraLong (long : Addr)
  /-- $10 BPL near (R231). -/
  | bpl (disp : Byte)
  /-- $11 ORA (dp),Y (R201). -/
  | oraIndDpY (dp : Byte)
  /-- $12 ORA (dp) (R201). -/
  | oraIndDp (dp : Byte)
  /-- $13 ORA (sr,S),Y (R201). -/
  | oraIndSrY (sr : Byte)
  /-- $14 TRB dp (R180). -/
  | trbDp (dp : Byte)
  /-- $15 ORA dp,X (R201). -/
  | oraDpX (dp : Byte)
  /-- $16 ASL dp,X (R221). -/
  | aslDpX (dp : Byte)
  /-- $17 ORA [dp],Y (R201). -/
  | oraLongIndDpY (dp : Byte)
  /-- $19 ORA addr,Y (R201). -/
  | oraAddrY (addr : Word)
  /-- $1C TRB addr (R180). -/
  | trbAddr (addr : Word)
  /-- $1D ORA addr,X (R201). -/
  | oraAddrX (addr : Word)
  /-- $1E ASL addr,X (R221). -/
  | aslAddrX (addr : Word)
  /-- $1F ORA long,X (R201). -/
  | oraLongX (long : Addr)
  /-- $20 JSR addr (R246). -/
  | jsrAddr (addr : Word)
  /-- $21 AND (dp,X) (R200). -/
  | andIndDpX (dp : Byte)
  /-- $22 JSL long (R247). -/
  | jsl (long : Addr)
  /-- $23 AND sr,S (R200). -/
  | andSr (sr : Byte)
  /-- $24 BIT dp (R203). -/
  | bitDp (dp : Byte)
  /-- $25 AND dp (R200). -/
  | andDp (dp : Byte)
  /-- $26 ROL dp (R222). -/
  | rolDp (dp : Byte)
  /-- $27 AND [dp] (R200). -/
  | andLongIndDp (dp : Byte)
  /-- $29 AND const (R200). -/
  | andConst (const : Word)
  /-- $2C BIT addr (R203). -/
  | bitAddr (addr : Word)
  /-- $2D AND addr (R200). -/
  | andAddr (addr : Word)
  /-- $2E ROL addr (R222). -/
  | rolAddr (addr : Word)
  /-- $2F AND long (R200). -/
  | andLong (long : Addr)
  /-- $30 BMI near (R232). -/
  | bmi (disp : Byte)
  /-- $31 AND (dp),Y (R200). -/
  | andIndDpY (dp : Byte)
  /-- $32 AND (dp) (R200). -/
  | andIndDp (dp : Byte)
  /-- $33 AND (sr,S),Y (R200). -/
  | andIndSrY (sr : Byte)
  /-- $34 BIT dp,X (R203). -/
  | bitDpX (dp : Byte)
  /-- $35 AND dp,X (R200). -/
  | andDpX (dp : Byte)
  /-- $36 ROL dp,X (R222). -/
  | rolDpX (dp : Byte)
  /-- $37 AND [dp],Y (R200). -/
  | andLongIndDpY (dp : Byte)
  /-- $39 AND addr,Y (R200). -/
  | andAddrY (addr : Word)
  /-- $3C BIT addr,X (R203). -/
  | bitAddrX (addr : Word)
  /-- $3D AND addr,X (R200). -/
  | andAddrX (addr : Word)
  /-- $3E ROL addr,X (R222). -/
  | rolAddrX (addr : Word)
  /-- $3F AND long,X (R200). -/
  | andLongX (long : Addr)
  /-- $41 EOR (dp,X) (R202). -/
  | eorIndDpX (dp : Byte)
  /-- $42 WDM const (R336). -/
  | wdm (signature : Byte)
  /-- $43 EOR sr,S (R202). -/
  | eorSr (sr : Byte)
  /-- $44 MVP src,dest (R291). -/
  | mvp (src : Byte) (dest : Byte)
  /-- $45 EOR dp (R202). -/
  | eorDp (dp : Byte)
  /-- $46 LSR dp (R220). -/
  | lsrDp (dp : Byte)
  /-- $47 EOR [dp] (R202). -/
  | eorLongIndDp (dp : Byte)
  /-- $49 EOR const (R202). -/
  | eorConst (const : Word)
  /-- $4C JMP addr (R241). -/
  | jmpAddr (addr : Word)
  /-- $4D EOR addr (R202). -/
  | eorAddr (addr : Word)
  /-- $4E LSR addr (R220). -/
  | lsrAddr (addr : Word)
  /-- $4F EOR long (R202). -/
  | eorLong (long : Addr)
  /-- $50 BVC near (R233). -/
  | bvc (disp : Byte)
  /-- $51 EOR (dp),Y (R202). -/
  | eorIndDpY (dp : Byte)
  /-- $52 EOR (dp) (R202). -/
  | eorIndDp (dp : Byte)
  /-- $53 EOR (sr,S),Y (R202). -/
  | eorIndSrY (sr : Byte)
  /-- $54 MVN src,dest (R292). -/
  | mvn (src : Byte) (dest : Byte)
  /-- $55 EOR dp,X (R202). -/
  | eorDpX (dp : Byte)
  /-- $56 LSR dp,X (R220). -/
  | lsrDpX (dp : Byte)
  /-- $57 EOR [dp],Y (R202). -/
  | eorLongIndDpY (dp : Byte)
  /-- $59 EOR addr,Y (R202). -/
  | eorAddrY (addr : Word)
  /-- $5C JMP long (R242). -/
  | jmpLong (long : Addr)
  /-- $5D EOR addr,X (R202). -/
  | eorAddrX (addr : Word)
  /-- $5E LSR addr,X (R220). -/
  | lsrAddrX (addr : Word)
  /-- $5F EOR long,X (R202). -/
  | eorLongX (long : Addr)
  /-- $61 ADC (dp,X) (R183). -/
  | adcIndDpX (dp : Byte)
  /-- $62 PER label (R293). -/
  | per (disp : Word)
  /-- $63 ADC sr,S (R183). -/
  | adcSr (sr : Byte)
  /-- $64 STZ dp (R166). -/
  | stzDp (dp : Byte)
  /-- $65 ADC dp (R183). -/
  | adcDp (dp : Byte)
  /-- $66 ROR dp (R223). -/
  | rorDp (dp : Byte)
  /-- $67 ADC [dp] (R183). -/
  | adcLongIndDp (dp : Byte)
  /-- $69 ADC const (R183). -/
  | adcConst (const : Word)
  /-- $6C JMP (addr) (R243). -/
  | jmpIndAddr (addr : Word)
  /-- $6D ADC addr (R183). -/
  | adcAddr (addr : Word)
  /-- $6E ROR addr (R223). -/
  | rorAddr (addr : Word)
  /-- $6F ADC long (R183). -/
  | adcLong (long : Addr)
  /-- $70 BVS near (R234). -/
  | bvs (disp : Byte)
  /-- $71 ADC (dp),Y (R183). -/
  | adcIndDpY (dp : Byte)
  /-- $72 ADC (dp) (R183). -/
  | adcIndDp (dp : Byte)
  /-- $73 ADC (sr,S),Y (R183). -/
  | adcIndSrY (sr : Byte)
  /-- $74 STZ dp,X (R166). -/
  | stzDpX (dp : Byte)
  /-- $75 ADC dp,X (R183). -/
  | adcDpX (dp : Byte)
  /-- $76 ROR dp,X (R223). -/
  | rorDpX (dp : Byte)
  /-- $77 ADC [dp],Y (R183). -/
  | adcLongIndDpY (dp : Byte)
  /-- $79 ADC addr,Y (R183). -/
  | adcAddrY (addr : Word)
  /-- $7C JMP (addr,X) (R244). -/
  | jmpIndAddrX (addr : Word)
  /-- $7D ADC addr,X (R183). -/
  | adcAddrX (addr : Word)
  /-- $7E ROR addr,X (R223). -/
  | rorAddrX (addr : Word)
  /-- $7F ADC long,X (R183). -/
  | adcLongX (long : Addr)
  /-- $80 BRA near (R235). -/
  | bra (disp : Byte)
  /-- $81 STA (dp,X) (R163). -/
  | staIndDpX (dp : Byte)
  /-- $82 BRL addr (R236). -/
  | brl (disp : Word)
  /-- $83 STA sr,S (R163). -/
  | staSr (sr : Byte)
  /-- $84 STY dp (R165). -/
  | styDp (dp : Byte)
  /-- $85 STA dp (R163). -/
  | staDp (dp : Byte)
  /-- $86 STX dp (R164). -/
  | stxDp (dp : Byte)
  /-- $87 STA [dp] (R163). -/
  | staLongIndDp (dp : Byte)
  /-- $89 BIT const (R203). -/
  | bitConst (const : Word)
  /-- $8C STY addr (R165). -/
  | styAddr (addr : Word)
  /-- $8D STA addr (R163). -/
  | staAddr (addr : Word)
  /-- $8E STX addr (R164). -/
  | stxAddr (addr : Word)
  /-- $8F STA long (R163). -/
  | staLong (long : Addr)
  /-- $90 BCC near (R237). -/
  | bcc (disp : Byte)
  /-- $91 STA (dp),Y (R163). -/
  | staIndDpY (dp : Byte)
  /-- $92 STA (dp) (R163). -/
  | staIndDp (dp : Byte)
  /-- $93 STA (sr,S),Y (R163). -/
  | staIndSrY (sr : Byte)
  /-- $94 STY dp,X (R165). -/
  | styDpX (dp : Byte)
  /-- $95 STA dp,X (R163). -/
  | staDpX (dp : Byte)
  /-- $96 STX dp,Y (R164). -/
  | stxDpY (dp : Byte)
  /-- $97 STA [dp],Y (R163). -/
  | staLongIndDpY (dp : Byte)
  /-- $99 STA addr,Y (R163). -/
  | staAddrY (addr : Word)
  /-- $9C STZ addr (R166). -/
  | stzAddr (addr : Word)
  /-- $9D STA addr,X (R163). -/
  | staAddrX (addr : Word)
  /-- $9E STZ addr,X (R166). -/
  | stzAddrX (addr : Word)
  /-- $9F STA long,X (R163). -/
  | staLongX (long : Addr)
  /-- $A0 LDY const (R162). -/
  | ldyConst (const : Word)
  /-- $A1 LDA (dp,X) (R160). -/
  | ldaIndDpX (dp : Byte)
  /-- $A2 LDX const (R161). -/
  | ldxConst (const : Word)
  /-- $A3 LDA sr,S (R160). -/
  | ldaSr (sr : Byte)
  /-- $A4 LDY dp (R162). -/
  | ldyDp (dp : Byte)
  /-- $A5 LDA dp (R160). -/
  | ldaDp (dp : Byte)
  /-- $A6 LDX dp (R161). -/
  | ldxDp (dp : Byte)
  /-- $A7 LDA [dp] (R160). -/
  | ldaLongIndDp (dp : Byte)
  /-- $A9 LDA const (R160). -/
  | ldaConst (const : Word)
  /-- $AC LDY addr (R162). -/
  | ldyAddr (addr : Word)
  /-- $AD LDA addr (R160). -/
  | ldaAddr (addr : Word)
  /-- $AE LDX addr (R161). -/
  | ldxAddr (addr : Word)
  /-- $AF LDA long (R160). -/
  | ldaLong (long : Addr)
  /-- $B0 BCS near (R238). -/
  | bcs (disp : Byte)
  /-- $B1 LDA (dp),Y (R160). -/
  | ldaIndDpY (dp : Byte)
  /-- $B2 LDA (dp) (R160). -/
  | ldaIndDp (dp : Byte)
  /-- $B3 LDA (sr,S),Y (R160). -/
  | ldaIndSrY (sr : Byte)
  /-- $B4 LDY dp,X (R162). -/
  | ldyDpX (dp : Byte)
  /-- $B5 LDA dp,X (R160). -/
  | ldaDpX (dp : Byte)
  /-- $B6 LDX dp,Y (R161). -/
  | ldxDpY (dp : Byte)
  /-- $B7 LDA [dp],Y (R160). -/
  | ldaLongIndDpY (dp : Byte)
  /-- $B9 LDA addr,Y (R160). -/
  | ldaAddrY (addr : Word)
  /-- $BC LDY addr,X (R162). -/
  | ldyAddrX (addr : Word)
  /-- $BD LDA addr,X (R160). -/
  | ldaAddrX (addr : Word)
  /-- $BE LDX addr,Y (R161). -/
  | ldxAddrY (addr : Word)
  /-- $BF LDA long,X (R160). -/
  | ldaLongX (long : Addr)
  /-- $C0 CPY const (R206). -/
  | cpyConst (const : Word)
  /-- $C1 CMP (dp,X) (R204). -/
  | cmpIndDpX (dp : Byte)
  /-- $C2 REP const (R321). -/
  | rep (const : Byte)
  /-- $C3 CMP sr,S (R204). -/
  | cmpSr (sr : Byte)
  /-- $C4 CPY dp (R206). -/
  | cpyDp (dp : Byte)
  /-- $C5 CMP dp (R204). -/
  | cmpDp (dp : Byte)
  /-- $C6 DEC dp (R190). -/
  | decDp (dp : Byte)
  /-- $C7 CMP [dp] (R204). -/
  | cmpLongIndDp (dp : Byte)
  /-- $C9 CMP const (R204). -/
  | cmpConst (const : Word)
  /-- $CC CPY addr (R206). -/
  | cpyAddr (addr : Word)
  /-- $CD CMP addr (R204). -/
  | cmpAddr (addr : Word)
  /-- $CE DEC addr (R190). -/
  | decAddr (addr : Word)
  /-- $CF CMP long (R204). -/
  | cmpLong (long : Addr)
  /-- $D0 BNE near (R239). -/
  | bne (disp : Byte)
  /-- $D1 CMP (dp),Y (R204). -/
  | cmpIndDpY (dp : Byte)
  /-- $D2 CMP (dp) (R204). -/
  | cmpIndDp (dp : Byte)
  /-- $D3 CMP (sr,S),Y (R204). -/
  | cmpIndSrY (sr : Byte)
  /-- $D4 PEI (dp) (R294). -/
  | pei (dp : Byte)
  /-- $D5 CMP dp,X (R204). -/
  | cmpDpX (dp : Byte)
  /-- $D6 DEC dp,X (R190). -/
  | decDpX (dp : Byte)
  /-- $D7 CMP [dp],Y (R204). -/
  | cmpLongIndDpY (dp : Byte)
  /-- $D9 CMP addr,Y (R204). -/
  | cmpAddrY (addr : Word)
  /-- $DC JMP [addr] (R245). -/
  | jmpLongIndAddr (addr : Word)
  /-- $DD CMP addr,X (R204). -/
  | cmpAddrX (addr : Word)
  /-- $DE DEC addr,X (R190). -/
  | decAddrX (addr : Word)
  /-- $DF CMP long,X (R204). -/
  | cmpLongX (long : Addr)
  /-- $E0 CPX const (R205). -/
  | cpxConst (const : Word)
  /-- $E1 SBC (dp,X) (R184). -/
  | sbcIndDpX (dp : Byte)
  /-- $E2 SEP const (R322). -/
  | sep (const : Byte)
  /-- $E3 SBC sr,S (R184). -/
  | sbcSr (sr : Byte)
  /-- $E4 CPX dp (R205). -/
  | cpxDp (dp : Byte)
  /-- $E5 SBC dp (R184). -/
  | sbcDp (dp : Byte)
  /-- $E6 INC dp (R187). -/
  | incDp (dp : Byte)
  /-- $E7 SBC [dp] (R184). -/
  | sbcLongIndDp (dp : Byte)
  /-- $E9 SBC const (R184). -/
  | sbcConst (const : Word)
  /-- $EC CPX addr (R205). -/
  | cpxAddr (addr : Word)
  /-- $ED SBC addr (R184). -/
  | sbcAddr (addr : Word)
  /-- $EE INC addr (R187). -/
  | incAddr (addr : Word)
  /-- $EF SBC long (R184). -/
  | sbcLong (long : Addr)
  /-- $F0 BEQ near (R240). -/
  | beq (disp : Byte)
  /-- $F1 SBC (dp),Y (R184). -/
  | sbcIndDpY (dp : Byte)
  /-- $F2 SBC (dp) (R184). -/
  | sbcIndDp (dp : Byte)
  /-- $F3 SBC (sr,S),Y (R184). -/
  | sbcIndSrY (sr : Byte)
  /-- $F4 PEA const (R295). -/
  | pea (const : Word)
  /-- $F5 SBC dp,X (R184). -/
  | sbcDpX (dp : Byte)
  /-- $F6 INC dp,X (R187). -/
  | incDpX (dp : Byte)
  /-- $F7 SBC [dp],Y (R184). -/
  | sbcLongIndDpY (dp : Byte)
  /-- $F9 SBC addr,Y (R184). -/
  | sbcAddrY (addr : Word)
  /-- $FC JSR (addr,X) (R248). -/
  | jsrIndAddrX (addr : Word)
  /-- $FD SBC addr,X (R184). -/
  | sbcAddrX (addr : Word)
  /-- $FE INC addr,X (R187). -/
  | incAddrX (addr : Word)
  /-- $FF SBC long,X (R184). -/
  | sbcLongX (long : Addr)
  /-- $08 PHP (R296). -/
  | php
  /-- $0A ASL (R221). -/
  | aslAcc
  /-- $0B PHD (R297). -/
  | phd
  /-- $18 CLC (R260). -/
  | clc
  /-- $1A INC (R187). -/
  | incAcc
  /-- $1B TCS (R268). -/
  | tcs
  /-- $28 PLP (R303). -/
  | plp
  /-- $2A ROL (R222). -/
  | rolAcc
  /-- $2B PLD (R304). -/
  | pld
  /-- $38 SEC (R261). -/
  | sec
  /-- $3A DEC (R190). -/
  | decAcc
  /-- $3B TSC (R269). -/
  | tsc
  /-- $40 RTI (R332). -/
  | rti
  /-- $48 PHA (R298). -/
  | pha
  /-- $4A LSR (R220). -/
  | lsrAcc
  /-- $4B PHK (R299). -/
  | phk
  /-- $58 CLI (R262). -/
  | cli
  /-- $5A PHY (R300). -/
  | phy
  /-- $5B TCD (R270). -/
  | tcd
  /-- $60 RTS (R249). -/
  | rts
  /-- $68 PLA (R305). -/
  | pla
  /-- $6A ROR (R223). -/
  | rorAcc
  /-- $6B RTL (R250). -/
  | rtl
  /-- $78 SEI (R263). -/
  | sei
  /-- $7A PLY (R306). -/
  | ply
  /-- $7B TDC (R271). -/
  | tdc
  /-- $88 DEY (R192). -/
  | dey
  /-- $8A TXA (R272). -/
  | txa
  /-- $8B PHB (R301). -/
  | phb
  /-- $98 TYA (R273). -/
  | tya
  /-- $9A TXS (R274). -/
  | txs
  /-- $9B TXY (R275). -/
  | txy
  /-- $A8 TAY (R276). -/
  | tay
  /-- $AA TAX (R277). -/
  | tax
  /-- $AB PLB (R307). -/
  | plb
  /-- $B8 CLV (R264). -/
  | clv
  /-- $BA TSX (R278). -/
  | tsx
  /-- $BB TYX (R279). -/
  | tyx
  /-- $C8 INY (R189). -/
  | iny
  /-- $CA DEX (R191). -/
  | dex
  /-- $CB WAI (R334). -/
  | wai
  /-- $D8 CLD (R265). -/
  | cld
  /-- $DA PHX (R302). -/
  | phx
  /-- $DB STP (R335). -/
  | stp
  /-- $E8 INX (R188). -/
  | inx
  /-- $EA NOP (R320). -/
  | nop
  /-- $EB XBA (R323). -/
  | xba
  /-- $F8 SED (R266). -/
  | sed
  /-- $FA PLX (R308). -/
  | plx
  /-- $FB XCE (R324). -/
  | xce
deriving DecidableEq, Repr

/-- The formats of instructions: one per layout of the operand bytes (R91). -/
inductive Form where
  | implied
  | acc
  | imm8
  | immM
  | immX
  | imm16
  | dp
  | dpX
  | dpY
  | indDp
  | indDpX
  | indDpY
  | longIndDp
  | longIndDpY
  | sr
  | indSrY
  | addr
  | addrX
  | addrY
  | indAddr
  | indAddrX
  | longIndAddr
  | jumpAddr
  | long
  | longX
  | jumpLong
  | near
  | rel16
  | srcDest
deriving DecidableEq, Repr

end Sys2Proof
end

