-- ==== Sys2Proof/Machine/Dispatch.lean ====
section
/-! DEFINITION. What an instruction does: one arm per constructor of Instr, each one direct call of the instruction's own
meaning. -/

namespace Sys2Proof.Machine

def exec (i : Instr) (s : State) : Host.Outcome State Fault Refusal :=
  match i with
  | .brk signature => Sys2Proof.Machine.execBrk signature s
  | .oraIndDpX dp => Sys2Proof.Machine.execOraIndDpX dp s
  | .cop signature => Sys2Proof.Machine.execCop signature s
  | .oraSr sr => Sys2Proof.Machine.execOraSr sr s
  | .tsbDp dp => Sys2Proof.Machine.execTsbDp dp s
  | .oraDp dp => Sys2Proof.Machine.execOraDp dp s
  | .aslDp dp => Sys2Proof.Machine.execAslDp dp s
  | .oraLongIndDp dp => Sys2Proof.Machine.execOraLongIndDp dp s
  | .php => Sys2Proof.Machine.execPhp s
  | .oraConst const => Sys2Proof.Machine.execOraConst const s
  | .aslAcc => Sys2Proof.Machine.execAslAcc s
  | .phd => Sys2Proof.Machine.execPhd s
  | .tsbAddr addr => Sys2Proof.Machine.execTsbAddr addr s
  | .oraAddr addr => Sys2Proof.Machine.execOraAddr addr s
  | .aslAddr addr => Sys2Proof.Machine.execAslAddr addr s
  | .oraLong long => Sys2Proof.Machine.execOraLong long s
  | .bpl disp => Sys2Proof.Machine.execBpl disp s
  | .oraIndDpY dp => Sys2Proof.Machine.execOraIndDpY dp s
  | .oraIndDp dp => Sys2Proof.Machine.execOraIndDp dp s
  | .oraIndSrY sr => Sys2Proof.Machine.execOraIndSrY sr s
  | .trbDp dp => Sys2Proof.Machine.execTrbDp dp s
  | .oraDpX dp => Sys2Proof.Machine.execOraDpX dp s
  | .aslDpX dp => Sys2Proof.Machine.execAslDpX dp s
  | .oraLongIndDpY dp => Sys2Proof.Machine.execOraLongIndDpY dp s
  | .clc => Sys2Proof.Machine.execClc s
  | .oraAddrY addr => Sys2Proof.Machine.execOraAddrY addr s
  | .incAcc => Sys2Proof.Machine.execIncAcc s
  | .tcs => Sys2Proof.Machine.execTcs s
  | .trbAddr addr => Sys2Proof.Machine.execTrbAddr addr s
  | .oraAddrX addr => Sys2Proof.Machine.execOraAddrX addr s
  | .aslAddrX addr => Sys2Proof.Machine.execAslAddrX addr s
  | .oraLongX long => Sys2Proof.Machine.execOraLongX long s
  | .jsrAddr addr => Sys2Proof.Machine.execJsrAddr addr s
  | .andIndDpX dp => Sys2Proof.Machine.execAndIndDpX dp s
  | .jsl long => Sys2Proof.Machine.execJsl long s
  | .andSr sr => Sys2Proof.Machine.execAndSr sr s
  | .bitDp dp => Sys2Proof.Machine.execBitDp dp s
  | .andDp dp => Sys2Proof.Machine.execAndDp dp s
  | .rolDp dp => Sys2Proof.Machine.execRolDp dp s
  | .andLongIndDp dp => Sys2Proof.Machine.execAndLongIndDp dp s
  | .plp => Sys2Proof.Machine.execPlp s
  | .andConst const => Sys2Proof.Machine.execAndConst const s
  | .rolAcc => Sys2Proof.Machine.execRolAcc s
  | .pld => Sys2Proof.Machine.execPld s
  | .bitAddr addr => Sys2Proof.Machine.execBitAddr addr s
  | .andAddr addr => Sys2Proof.Machine.execAndAddr addr s
  | .rolAddr addr => Sys2Proof.Machine.execRolAddr addr s
  | .andLong long => Sys2Proof.Machine.execAndLong long s
  | .bmi disp => Sys2Proof.Machine.execBmi disp s
  | .andIndDpY dp => Sys2Proof.Machine.execAndIndDpY dp s
  | .andIndDp dp => Sys2Proof.Machine.execAndIndDp dp s
  | .andIndSrY sr => Sys2Proof.Machine.execAndIndSrY sr s
  | .bitDpX dp => Sys2Proof.Machine.execBitDpX dp s
  | .andDpX dp => Sys2Proof.Machine.execAndDpX dp s
  | .rolDpX dp => Sys2Proof.Machine.execRolDpX dp s
  | .andLongIndDpY dp => Sys2Proof.Machine.execAndLongIndDpY dp s
  | .sec => Sys2Proof.Machine.execSec s
  | .andAddrY addr => Sys2Proof.Machine.execAndAddrY addr s
  | .decAcc => Sys2Proof.Machine.execDecAcc s
  | .tsc => Sys2Proof.Machine.execTsc s
  | .bitAddrX addr => Sys2Proof.Machine.execBitAddrX addr s
  | .andAddrX addr => Sys2Proof.Machine.execAndAddrX addr s
  | .rolAddrX addr => Sys2Proof.Machine.execRolAddrX addr s
  | .andLongX long => Sys2Proof.Machine.execAndLongX long s
  | .rti => Sys2Proof.Machine.execRti s
  | .eorIndDpX dp => Sys2Proof.Machine.execEorIndDpX dp s
  | .wdm signature => Sys2Proof.Machine.execWdm signature s
  | .eorSr sr => Sys2Proof.Machine.execEorSr sr s
  | .mvp src dest => Sys2Proof.Machine.execMvp src dest s
  | .eorDp dp => Sys2Proof.Machine.execEorDp dp s
  | .lsrDp dp => Sys2Proof.Machine.execLsrDp dp s
  | .eorLongIndDp dp => Sys2Proof.Machine.execEorLongIndDp dp s
  | .pha => Sys2Proof.Machine.execPha s
  | .eorConst const => Sys2Proof.Machine.execEorConst const s
  | .lsrAcc => Sys2Proof.Machine.execLsrAcc s
  | .phk => Sys2Proof.Machine.execPhk s
  | .jmpAddr addr => Sys2Proof.Machine.execJmpAddr addr s
  | .eorAddr addr => Sys2Proof.Machine.execEorAddr addr s
  | .lsrAddr addr => Sys2Proof.Machine.execLsrAddr addr s
  | .eorLong long => Sys2Proof.Machine.execEorLong long s
  | .bvc disp => Sys2Proof.Machine.execBvc disp s
  | .eorIndDpY dp => Sys2Proof.Machine.execEorIndDpY dp s
  | .eorIndDp dp => Sys2Proof.Machine.execEorIndDp dp s
  | .eorIndSrY sr => Sys2Proof.Machine.execEorIndSrY sr s
  | .mvn src dest => Sys2Proof.Machine.execMvn src dest s
  | .eorDpX dp => Sys2Proof.Machine.execEorDpX dp s
  | .lsrDpX dp => Sys2Proof.Machine.execLsrDpX dp s
  | .eorLongIndDpY dp => Sys2Proof.Machine.execEorLongIndDpY dp s
  | .cli => Sys2Proof.Machine.execCli s
  | .eorAddrY addr => Sys2Proof.Machine.execEorAddrY addr s
  | .phy => Sys2Proof.Machine.execPhy s
  | .tcd => Sys2Proof.Machine.execTcd s
  | .jmpLong long => Sys2Proof.Machine.execJmpLong long s
  | .eorAddrX addr => Sys2Proof.Machine.execEorAddrX addr s
  | .lsrAddrX addr => Sys2Proof.Machine.execLsrAddrX addr s
  | .eorLongX long => Sys2Proof.Machine.execEorLongX long s
  | .rts => Sys2Proof.Machine.execRts s
  | .adcIndDpX dp => Sys2Proof.Machine.execAdcIndDpX dp s
  | .per disp => Sys2Proof.Machine.execPer disp s
  | .adcSr sr => Sys2Proof.Machine.execAdcSr sr s
  | .stzDp dp => Sys2Proof.Machine.execStzDp dp s
  | .adcDp dp => Sys2Proof.Machine.execAdcDp dp s
  | .rorDp dp => Sys2Proof.Machine.execRorDp dp s
  | .adcLongIndDp dp => Sys2Proof.Machine.execAdcLongIndDp dp s
  | .pla => Sys2Proof.Machine.execPla s
  | .adcConst const => Sys2Proof.Machine.execAdcConst const s
  | .rorAcc => Sys2Proof.Machine.execRorAcc s
  | .rtl => Sys2Proof.Machine.execRtl s
  | .jmpIndAddr addr => Sys2Proof.Machine.execJmpIndAddr addr s
  | .adcAddr addr => Sys2Proof.Machine.execAdcAddr addr s
  | .rorAddr addr => Sys2Proof.Machine.execRorAddr addr s
  | .adcLong long => Sys2Proof.Machine.execAdcLong long s
  | .bvs disp => Sys2Proof.Machine.execBvs disp s
  | .adcIndDpY dp => Sys2Proof.Machine.execAdcIndDpY dp s
  | .adcIndDp dp => Sys2Proof.Machine.execAdcIndDp dp s
  | .adcIndSrY sr => Sys2Proof.Machine.execAdcIndSrY sr s
  | .stzDpX dp => Sys2Proof.Machine.execStzDpX dp s
  | .adcDpX dp => Sys2Proof.Machine.execAdcDpX dp s
  | .rorDpX dp => Sys2Proof.Machine.execRorDpX dp s
  | .adcLongIndDpY dp => Sys2Proof.Machine.execAdcLongIndDpY dp s
  | .sei => Sys2Proof.Machine.execSei s
  | .adcAddrY addr => Sys2Proof.Machine.execAdcAddrY addr s
  | .ply => Sys2Proof.Machine.execPly s
  | .tdc => Sys2Proof.Machine.execTdc s
  | .jmpIndAddrX addr => Sys2Proof.Machine.execJmpIndAddrX addr s
  | .adcAddrX addr => Sys2Proof.Machine.execAdcAddrX addr s
  | .rorAddrX addr => Sys2Proof.Machine.execRorAddrX addr s
  | .adcLongX long => Sys2Proof.Machine.execAdcLongX long s
  | .bra disp => Sys2Proof.Machine.execBra disp s
  | .staIndDpX dp => Sys2Proof.Machine.execStaIndDpX dp s
  | .brl disp => Sys2Proof.Machine.execBrl disp s
  | .staSr sr => Sys2Proof.Machine.execStaSr sr s
  | .styDp dp => Sys2Proof.Machine.execStyDp dp s
  | .staDp dp => Sys2Proof.Machine.execStaDp dp s
  | .stxDp dp => Sys2Proof.Machine.execStxDp dp s
  | .staLongIndDp dp => Sys2Proof.Machine.execStaLongIndDp dp s
  | .dey => Sys2Proof.Machine.execDey s
  | .bitConst const => Sys2Proof.Machine.execBitConst const s
  | .txa => Sys2Proof.Machine.execTxa s
  | .phb => Sys2Proof.Machine.execPhb s
  | .styAddr addr => Sys2Proof.Machine.execStyAddr addr s
  | .staAddr addr => Sys2Proof.Machine.execStaAddr addr s
  | .stxAddr addr => Sys2Proof.Machine.execStxAddr addr s
  | .staLong long => Sys2Proof.Machine.execStaLong long s
  | .bcc disp => Sys2Proof.Machine.execBcc disp s
  | .staIndDpY dp => Sys2Proof.Machine.execStaIndDpY dp s
  | .staIndDp dp => Sys2Proof.Machine.execStaIndDp dp s
  | .staIndSrY sr => Sys2Proof.Machine.execStaIndSrY sr s
  | .styDpX dp => Sys2Proof.Machine.execStyDpX dp s
  | .staDpX dp => Sys2Proof.Machine.execStaDpX dp s
  | .stxDpY dp => Sys2Proof.Machine.execStxDpY dp s
  | .staLongIndDpY dp => Sys2Proof.Machine.execStaLongIndDpY dp s
  | .tya => Sys2Proof.Machine.execTya s
  | .staAddrY addr => Sys2Proof.Machine.execStaAddrY addr s
  | .txs => Sys2Proof.Machine.execTxs s
  | .txy => Sys2Proof.Machine.execTxy s
  | .stzAddr addr => Sys2Proof.Machine.execStzAddr addr s
  | .staAddrX addr => Sys2Proof.Machine.execStaAddrX addr s
  | .stzAddrX addr => Sys2Proof.Machine.execStzAddrX addr s
  | .staLongX long => Sys2Proof.Machine.execStaLongX long s
  | .ldyConst const => Sys2Proof.Machine.execLdyConst const s
  | .ldaIndDpX dp => Sys2Proof.Machine.execLdaIndDpX dp s
  | .ldxConst const => Sys2Proof.Machine.execLdxConst const s
  | .ldaSr sr => Sys2Proof.Machine.execLdaSr sr s
  | .ldyDp dp => Sys2Proof.Machine.execLdyDp dp s
  | .ldaDp dp => Sys2Proof.Machine.execLdaDp dp s
  | .ldxDp dp => Sys2Proof.Machine.execLdxDp dp s
  | .ldaLongIndDp dp => Sys2Proof.Machine.execLdaLongIndDp dp s
  | .tay => Sys2Proof.Machine.execTay s
  | .ldaConst const => Sys2Proof.Machine.execLdaConst const s
  | .tax => Sys2Proof.Machine.execTax s
  | .plb => Sys2Proof.Machine.execPlb s
  | .ldyAddr addr => Sys2Proof.Machine.execLdyAddr addr s
  | .ldaAddr addr => Sys2Proof.Machine.execLdaAddr addr s
  | .ldxAddr addr => Sys2Proof.Machine.execLdxAddr addr s
  | .ldaLong long => Sys2Proof.Machine.execLdaLong long s
  | .bcs disp => Sys2Proof.Machine.execBcs disp s
  | .ldaIndDpY dp => Sys2Proof.Machine.execLdaIndDpY dp s
  | .ldaIndDp dp => Sys2Proof.Machine.execLdaIndDp dp s
  | .ldaIndSrY sr => Sys2Proof.Machine.execLdaIndSrY sr s
  | .ldyDpX dp => Sys2Proof.Machine.execLdyDpX dp s
  | .ldaDpX dp => Sys2Proof.Machine.execLdaDpX dp s
  | .ldxDpY dp => Sys2Proof.Machine.execLdxDpY dp s
  | .ldaLongIndDpY dp => Sys2Proof.Machine.execLdaLongIndDpY dp s
  | .clv => Sys2Proof.Machine.execClv s
  | .ldaAddrY addr => Sys2Proof.Machine.execLdaAddrY addr s
  | .tsx => Sys2Proof.Machine.execTsx s
  | .tyx => Sys2Proof.Machine.execTyx s
  | .ldyAddrX addr => Sys2Proof.Machine.execLdyAddrX addr s
  | .ldaAddrX addr => Sys2Proof.Machine.execLdaAddrX addr s
  | .ldxAddrY addr => Sys2Proof.Machine.execLdxAddrY addr s
  | .ldaLongX long => Sys2Proof.Machine.execLdaLongX long s
  | .cpyConst const => Sys2Proof.Machine.execCpyConst const s
  | .cmpIndDpX dp => Sys2Proof.Machine.execCmpIndDpX dp s
  | .rep const => Sys2Proof.Machine.execRep const s
  | .cmpSr sr => Sys2Proof.Machine.execCmpSr sr s
  | .cpyDp dp => Sys2Proof.Machine.execCpyDp dp s
  | .cmpDp dp => Sys2Proof.Machine.execCmpDp dp s
  | .decDp dp => Sys2Proof.Machine.execDecDp dp s
  | .cmpLongIndDp dp => Sys2Proof.Machine.execCmpLongIndDp dp s
  | .iny => Sys2Proof.Machine.execIny s
  | .cmpConst const => Sys2Proof.Machine.execCmpConst const s
  | .dex => Sys2Proof.Machine.execDex s
  | .wai => Sys2Proof.Machine.execWai s
  | .cpyAddr addr => Sys2Proof.Machine.execCpyAddr addr s
  | .cmpAddr addr => Sys2Proof.Machine.execCmpAddr addr s
  | .decAddr addr => Sys2Proof.Machine.execDecAddr addr s
  | .cmpLong long => Sys2Proof.Machine.execCmpLong long s
  | .bne disp => Sys2Proof.Machine.execBne disp s
  | .cmpIndDpY dp => Sys2Proof.Machine.execCmpIndDpY dp s
  | .cmpIndDp dp => Sys2Proof.Machine.execCmpIndDp dp s
  | .cmpIndSrY sr => Sys2Proof.Machine.execCmpIndSrY sr s
  | .pei dp => Sys2Proof.Machine.execPei dp s
  | .cmpDpX dp => Sys2Proof.Machine.execCmpDpX dp s
  | .decDpX dp => Sys2Proof.Machine.execDecDpX dp s
  | .cmpLongIndDpY dp => Sys2Proof.Machine.execCmpLongIndDpY dp s
  | .cld => Sys2Proof.Machine.execCld s
  | .cmpAddrY addr => Sys2Proof.Machine.execCmpAddrY addr s
  | .phx => Sys2Proof.Machine.execPhx s
  | .stp => Sys2Proof.Machine.execStp s
  | .jmpLongIndAddr addr => Sys2Proof.Machine.execJmpLongIndAddr addr s
  | .cmpAddrX addr => Sys2Proof.Machine.execCmpAddrX addr s
  | .decAddrX addr => Sys2Proof.Machine.execDecAddrX addr s
  | .cmpLongX long => Sys2Proof.Machine.execCmpLongX long s
  | .cpxConst const => Sys2Proof.Machine.execCpxConst const s
  | .sbcIndDpX dp => Sys2Proof.Machine.execSbcIndDpX dp s
  | .sep const => Sys2Proof.Machine.execSep const s
  | .sbcSr sr => Sys2Proof.Machine.execSbcSr sr s
  | .cpxDp dp => Sys2Proof.Machine.execCpxDp dp s
  | .sbcDp dp => Sys2Proof.Machine.execSbcDp dp s
  | .incDp dp => Sys2Proof.Machine.execIncDp dp s
  | .sbcLongIndDp dp => Sys2Proof.Machine.execSbcLongIndDp dp s
  | .inx => Sys2Proof.Machine.execInx s
  | .sbcConst const => Sys2Proof.Machine.execSbcConst const s
  | .nop => Sys2Proof.Machine.execNop s
  | .xba => Sys2Proof.Machine.execXba s
  | .cpxAddr addr => Sys2Proof.Machine.execCpxAddr addr s
  | .sbcAddr addr => Sys2Proof.Machine.execSbcAddr addr s
  | .incAddr addr => Sys2Proof.Machine.execIncAddr addr s
  | .sbcLong long => Sys2Proof.Machine.execSbcLong long s
  | .beq disp => Sys2Proof.Machine.execBeq disp s
  | .sbcIndDpY dp => Sys2Proof.Machine.execSbcIndDpY dp s
  | .sbcIndDp dp => Sys2Proof.Machine.execSbcIndDp dp s
  | .sbcIndSrY sr => Sys2Proof.Machine.execSbcIndSrY sr s
  | .pea const => Sys2Proof.Machine.execPea const s
  | .sbcDpX dp => Sys2Proof.Machine.execSbcDpX dp s
  | .incDpX dp => Sys2Proof.Machine.execIncDpX dp s
  | .sbcLongIndDpY dp => Sys2Proof.Machine.execSbcLongIndDpY dp s
  | .sed => Sys2Proof.Machine.execSed s
  | .sbcAddrY addr => Sys2Proof.Machine.execSbcAddrY addr s
  | .plx => Sys2Proof.Machine.execPlx s
  | .xce => Sys2Proof.Machine.execXce s
  | .jsrIndAddrX addr => Sys2Proof.Machine.execJsrIndAddrX addr s
  | .sbcAddrX addr => Sys2Proof.Machine.execSbcAddrX addr s
  | .incAddrX addr => Sys2Proof.Machine.execIncAddrX addr s
  | .sbcLongX long => Sys2Proof.Machine.execSbcLongX long s

end Sys2Proof.Machine
end

