-- ==== Sys2Proof/WellFormed.lean ====
section
/-! DEFINITION. Well-formedness of instructions. Every value of every fixed-size operand field is legal (R104); the one
check is that a `const` of variable size fits the width that m (eight opcodes) or x (four opcodes) chooses (R98). -/

namespace Sys2Proof

/-- A `const` fits: with an 8-bit operand its high byte is zero (R98). -/
def constFits (narrow : Bool) (const : Word) : Bool := !narrow || Machine.hi const == 0x00#8

/-- An instruction can stand in memory when the flags are `m` and `x` (R98). -/
def Instr.wellFormed (m x : Bool) (i : Instr) : Bool :=
  match i with
  | .oraConst const => constFits m const
  | .andConst const => constFits m const
  | .eorConst const => constFits m const
  | .adcConst const => constFits m const
  | .bitConst const => constFits m const
  | .ldaConst const => constFits m const
  | .cmpConst const => constFits m const
  | .sbcConst const => constFits m const
  | .ldyConst const => constFits x const
  | .ldxConst const => constFits x const
  | .cpyConst const => constFits x const
  | .cpxConst const => constFits x const
  | .brk _ | .oraIndDpX _ | .cop _ | .oraSr _ | .tsbDp _ | .oraDp _ | .aslDp _ | .oraLongIndDp _ | .php | .aslAcc
  | .phd | .tsbAddr _ | .oraAddr _ | .aslAddr _ | .oraLong _ | .bpl _ | .oraIndDpY _ | .oraIndDp _ | .oraIndSrY _
  | .trbDp _ | .oraDpX _ | .aslDpX _ | .oraLongIndDpY _ | .clc | .oraAddrY _ | .incAcc | .tcs | .trbAddr _
  | .oraAddrX _ | .aslAddrX _ | .oraLongX _ | .jsrAddr _ | .andIndDpX _ | .jsl _ | .andSr _ | .bitDp _ | .andDp _
  | .rolDp _ | .andLongIndDp _ | .plp | .rolAcc | .pld | .bitAddr _ | .andAddr _ | .rolAddr _ | .andLong _ | .bmi _
  | .andIndDpY _ | .andIndDp _ | .andIndSrY _ | .bitDpX _ | .andDpX _ | .rolDpX _ | .andLongIndDpY _ | .sec
  | .andAddrY _ | .decAcc | .tsc | .bitAddrX _ | .andAddrX _ | .rolAddrX _ | .andLongX _ | .rti | .eorIndDpX _
  | .wdm _ | .eorSr _ | .mvp _ _ | .eorDp _ | .lsrDp _ | .eorLongIndDp _ | .pha | .lsrAcc | .phk | .jmpAddr _
  | .eorAddr _ | .lsrAddr _ | .eorLong _ | .bvc _ | .eorIndDpY _ | .eorIndDp _ | .eorIndSrY _ | .mvn _ _ | .eorDpX _
  | .lsrDpX _ | .eorLongIndDpY _ | .cli | .eorAddrY _ | .phy | .tcd | .jmpLong _ | .eorAddrX _ | .lsrAddrX _
  | .eorLongX _ | .rts | .adcIndDpX _ | .per _ | .adcSr _ | .stzDp _ | .adcDp _ | .rorDp _ | .adcLongIndDp _ | .pla
  | .rorAcc | .rtl | .jmpIndAddr _ | .adcAddr _ | .rorAddr _ | .adcLong _ | .bvs _ | .adcIndDpY _ | .adcIndDp _
  | .adcIndSrY _ | .stzDpX _ | .adcDpX _ | .rorDpX _ | .adcLongIndDpY _ | .sei | .adcAddrY _ | .ply | .tdc
  | .jmpIndAddrX _ | .adcAddrX _ | .rorAddrX _ | .adcLongX _ | .bra _ | .staIndDpX _ | .brl _ | .staSr _ | .styDp _
  | .staDp _ | .stxDp _ | .staLongIndDp _ | .dey | .txa | .phb | .styAddr _ | .staAddr _ | .stxAddr _ | .staLong _
  | .bcc _ | .staIndDpY _ | .staIndDp _ | .staIndSrY _ | .styDpX _ | .staDpX _ | .stxDpY _ | .staLongIndDpY _ | .tya
  | .staAddrY _ | .txs | .txy | .stzAddr _ | .staAddrX _ | .stzAddrX _ | .staLongX _ | .ldaIndDpX _ | .ldaSr _
  | .ldyDp _ | .ldaDp _ | .ldxDp _ | .ldaLongIndDp _ | .tay | .tax | .plb | .ldyAddr _ | .ldaAddr _ | .ldxAddr _
  | .ldaLong _ | .bcs _ | .ldaIndDpY _ | .ldaIndDp _ | .ldaIndSrY _ | .ldyDpX _ | .ldaDpX _ | .ldxDpY _
  | .ldaLongIndDpY _ | .clv | .ldaAddrY _ | .tsx | .tyx | .ldyAddrX _ | .ldaAddrX _ | .ldxAddrY _ | .ldaLongX _
  | .cmpIndDpX _ | .rep _ | .cmpSr _ | .cpyDp _ | .cmpDp _ | .decDp _ | .cmpLongIndDp _ | .iny | .dex | .wai
  | .cpyAddr _ | .cmpAddr _ | .decAddr _ | .cmpLong _ | .bne _ | .cmpIndDpY _ | .cmpIndDp _ | .cmpIndSrY _ | .pei _
  | .cmpDpX _ | .decDpX _ | .cmpLongIndDpY _ | .cld | .cmpAddrY _ | .phx | .stp | .jmpLongIndAddr _ | .cmpAddrX _
  | .decAddrX _ | .cmpLongX _ | .sbcIndDpX _ | .sep _ | .sbcSr _ | .cpxDp _ | .sbcDp _ | .incDp _ | .sbcLongIndDp _
  | .inx | .nop | .xba | .cpxAddr _ | .sbcAddr _ | .incAddr _ | .sbcLong _ | .beq _ | .sbcIndDpY _ | .sbcIndDp _
  | .sbcIndSrY _ | .pea _ | .sbcDpX _ | .incDpX _ | .sbcLongIndDpY _ | .sed | .sbcAddrY _ | .plx | .xce
  | .jsrIndAddrX _ | .sbcAddrX _ | .incAddrX _ | .sbcLongX _ => true

end Sys2Proof
end

