-- ==== Sys2Proof/Decode.lean ====
section
/-! DEFINITION. The decoder and the encoder (spec/30_encoding.md). The opcode byte alone selects the instruction and its
form (R90, R102); m and x choose the length of the twelve `const` opcodes (R92, R94). -/

namespace Sys2Proof

open Machine

/-- The length in bytes of a format, with the current m and x (R91, R92). -/
def Form.length (m x : Bool) : Form → Nat
  | .implied => 1
  | .acc => 1
  | .imm8 => 2
  | .immM => if m then 2 else 3
  | .immX => if x then 2 else 3
  | .imm16 => 3
  | .dp => 2
  | .dpX => 2
  | .dpY => 2
  | .indDp => 2
  | .indDpX => 2
  | .indDpY => 2
  | .longIndDp => 2
  | .longIndDpY => 2
  | .sr => 2
  | .indSrY => 2
  | .addr => 3
  | .addrX => 3
  | .addrY => 3
  | .indAddr => 3
  | .indAddrX => 3
  | .longIndAddr => 3
  | .jumpAddr => 3
  | .long => 4
  | .longX => 4
  | .jumpLong => 4
  | .near => 2
  | .rel16 => 3
  | .srcDest => 3

/-- The format of an instruction (R91). -/
def Instr.form : Instr → Form
  | .brk _ => .imm8
  | .oraIndDpX _ => .indDpX
  | .cop _ => .imm8
  | .oraSr _ => .sr
  | .tsbDp _ => .dp
  | .oraDp _ => .dp
  | .aslDp _ => .dp
  | .oraLongIndDp _ => .longIndDp
  | .php => .implied
  | .oraConst _ => .immM
  | .aslAcc => .acc
  | .phd => .implied
  | .tsbAddr _ => .addr
  | .oraAddr _ => .addr
  | .aslAddr _ => .addr
  | .oraLong _ => .long
  | .bpl _ => .near
  | .oraIndDpY _ => .indDpY
  | .oraIndDp _ => .indDp
  | .oraIndSrY _ => .indSrY
  | .trbDp _ => .dp
  | .oraDpX _ => .dpX
  | .aslDpX _ => .dpX
  | .oraLongIndDpY _ => .longIndDpY
  | .clc => .implied
  | .oraAddrY _ => .addrY
  | .incAcc => .acc
  | .tcs => .implied
  | .trbAddr _ => .addr
  | .oraAddrX _ => .addrX
  | .aslAddrX _ => .addrX
  | .oraLongX _ => .longX
  | .jsrAddr _ => .jumpAddr
  | .andIndDpX _ => .indDpX
  | .jsl _ => .jumpLong
  | .andSr _ => .sr
  | .bitDp _ => .dp
  | .andDp _ => .dp
  | .rolDp _ => .dp
  | .andLongIndDp _ => .longIndDp
  | .plp => .implied
  | .andConst _ => .immM
  | .rolAcc => .acc
  | .pld => .implied
  | .bitAddr _ => .addr
  | .andAddr _ => .addr
  | .rolAddr _ => .addr
  | .andLong _ => .long
  | .bmi _ => .near
  | .andIndDpY _ => .indDpY
  | .andIndDp _ => .indDp
  | .andIndSrY _ => .indSrY
  | .bitDpX _ => .dpX
  | .andDpX _ => .dpX
  | .rolDpX _ => .dpX
  | .andLongIndDpY _ => .longIndDpY
  | .sec => .implied
  | .andAddrY _ => .addrY
  | .decAcc => .acc
  | .tsc => .implied
  | .bitAddrX _ => .addrX
  | .andAddrX _ => .addrX
  | .rolAddrX _ => .addrX
  | .andLongX _ => .longX
  | .rti => .implied
  | .eorIndDpX _ => .indDpX
  | .wdm _ => .imm8
  | .eorSr _ => .sr
  | .mvp _ _ => .srcDest
  | .eorDp _ => .dp
  | .lsrDp _ => .dp
  | .eorLongIndDp _ => .longIndDp
  | .pha => .implied
  | .eorConst _ => .immM
  | .lsrAcc => .acc
  | .phk => .implied
  | .jmpAddr _ => .jumpAddr
  | .eorAddr _ => .addr
  | .lsrAddr _ => .addr
  | .eorLong _ => .long
  | .bvc _ => .near
  | .eorIndDpY _ => .indDpY
  | .eorIndDp _ => .indDp
  | .eorIndSrY _ => .indSrY
  | .mvn _ _ => .srcDest
  | .eorDpX _ => .dpX
  | .lsrDpX _ => .dpX
  | .eorLongIndDpY _ => .longIndDpY
  | .cli => .implied
  | .eorAddrY _ => .addrY
  | .phy => .implied
  | .tcd => .implied
  | .jmpLong _ => .jumpLong
  | .eorAddrX _ => .addrX
  | .lsrAddrX _ => .addrX
  | .eorLongX _ => .longX
  | .rts => .implied
  | .adcIndDpX _ => .indDpX
  | .per _ => .rel16
  | .adcSr _ => .sr
  | .stzDp _ => .dp
  | .adcDp _ => .dp
  | .rorDp _ => .dp
  | .adcLongIndDp _ => .longIndDp
  | .pla => .implied
  | .adcConst _ => .immM
  | .rorAcc => .acc
  | .rtl => .implied
  | .jmpIndAddr _ => .indAddr
  | .adcAddr _ => .addr
  | .rorAddr _ => .addr
  | .adcLong _ => .long
  | .bvs _ => .near
  | .adcIndDpY _ => .indDpY
  | .adcIndDp _ => .indDp
  | .adcIndSrY _ => .indSrY
  | .stzDpX _ => .dpX
  | .adcDpX _ => .dpX
  | .rorDpX _ => .dpX
  | .adcLongIndDpY _ => .longIndDpY
  | .sei => .implied
  | .adcAddrY _ => .addrY
  | .ply => .implied
  | .tdc => .implied
  | .jmpIndAddrX _ => .indAddrX
  | .adcAddrX _ => .addrX
  | .rorAddrX _ => .addrX
  | .adcLongX _ => .longX
  | .bra _ => .near
  | .staIndDpX _ => .indDpX
  | .brl _ => .rel16
  | .staSr _ => .sr
  | .styDp _ => .dp
  | .staDp _ => .dp
  | .stxDp _ => .dp
  | .staLongIndDp _ => .longIndDp
  | .dey => .implied
  | .bitConst _ => .immM
  | .txa => .implied
  | .phb => .implied
  | .styAddr _ => .addr
  | .staAddr _ => .addr
  | .stxAddr _ => .addr
  | .staLong _ => .long
  | .bcc _ => .near
  | .staIndDpY _ => .indDpY
  | .staIndDp _ => .indDp
  | .staIndSrY _ => .indSrY
  | .styDpX _ => .dpX
  | .staDpX _ => .dpX
  | .stxDpY _ => .dpY
  | .staLongIndDpY _ => .longIndDpY
  | .tya => .implied
  | .staAddrY _ => .addrY
  | .txs => .implied
  | .txy => .implied
  | .stzAddr _ => .addr
  | .staAddrX _ => .addrX
  | .stzAddrX _ => .addrX
  | .staLongX _ => .longX
  | .ldyConst _ => .immX
  | .ldaIndDpX _ => .indDpX
  | .ldxConst _ => .immX
  | .ldaSr _ => .sr
  | .ldyDp _ => .dp
  | .ldaDp _ => .dp
  | .ldxDp _ => .dp
  | .ldaLongIndDp _ => .longIndDp
  | .tay => .implied
  | .ldaConst _ => .immM
  | .tax => .implied
  | .plb => .implied
  | .ldyAddr _ => .addr
  | .ldaAddr _ => .addr
  | .ldxAddr _ => .addr
  | .ldaLong _ => .long
  | .bcs _ => .near
  | .ldaIndDpY _ => .indDpY
  | .ldaIndDp _ => .indDp
  | .ldaIndSrY _ => .indSrY
  | .ldyDpX _ => .dpX
  | .ldaDpX _ => .dpX
  | .ldxDpY _ => .dpY
  | .ldaLongIndDpY _ => .longIndDpY
  | .clv => .implied
  | .ldaAddrY _ => .addrY
  | .tsx => .implied
  | .tyx => .implied
  | .ldyAddrX _ => .addrX
  | .ldaAddrX _ => .addrX
  | .ldxAddrY _ => .addrY
  | .ldaLongX _ => .longX
  | .cpyConst _ => .immX
  | .cmpIndDpX _ => .indDpX
  | .rep _ => .imm8
  | .cmpSr _ => .sr
  | .cpyDp _ => .dp
  | .cmpDp _ => .dp
  | .decDp _ => .dp
  | .cmpLongIndDp _ => .longIndDp
  | .iny => .implied
  | .cmpConst _ => .immM
  | .dex => .implied
  | .wai => .implied
  | .cpyAddr _ => .addr
  | .cmpAddr _ => .addr
  | .decAddr _ => .addr
  | .cmpLong _ => .long
  | .bne _ => .near
  | .cmpIndDpY _ => .indDpY
  | .cmpIndDp _ => .indDp
  | .cmpIndSrY _ => .indSrY
  | .pei _ => .indDp
  | .cmpDpX _ => .dpX
  | .decDpX _ => .dpX
  | .cmpLongIndDpY _ => .longIndDpY
  | .cld => .implied
  | .cmpAddrY _ => .addrY
  | .phx => .implied
  | .stp => .implied
  | .jmpLongIndAddr _ => .longIndAddr
  | .cmpAddrX _ => .addrX
  | .decAddrX _ => .addrX
  | .cmpLongX _ => .longX
  | .cpxConst _ => .immX
  | .sbcIndDpX _ => .indDpX
  | .sep _ => .imm8
  | .sbcSr _ => .sr
  | .cpxDp _ => .dp
  | .sbcDp _ => .dp
  | .incDp _ => .dp
  | .sbcLongIndDp _ => .longIndDp
  | .inx => .implied
  | .sbcConst _ => .immM
  | .nop => .implied
  | .xba => .implied
  | .cpxAddr _ => .addr
  | .sbcAddr _ => .addr
  | .incAddr _ => .addr
  | .sbcLong _ => .long
  | .beq _ => .near
  | .sbcIndDpY _ => .indDpY
  | .sbcIndDp _ => .indDp
  | .sbcIndSrY _ => .indSrY
  | .pea _ => .imm16
  | .sbcDpX _ => .dpX
  | .incDpX _ => .dpX
  | .sbcLongIndDpY _ => .longIndDpY
  | .sed => .implied
  | .sbcAddrY _ => .addrY
  | .plx => .implied
  | .xce => .implied
  | .jsrIndAddrX _ => .indAddrX
  | .sbcAddrX _ => .addrX
  | .incAddrX _ => .addrX
  | .sbcLongX _ => .longX

/-- The length in bytes of an instruction (R92). -/
def Instr.length (m x : Bool) (i : Instr) : Nat := i.form.length m x

/-- A `const` of variable size from the bytes after the opcode, low byte first (R97, R98). -/
def constField (narrow : Bool) (b2 b1 : Byte) : Word := if narrow then zext16 b1 else joinWord b2 b1

/-- The opcodes $00 to $0F, by the low digit (R102). -/
def decodeRow0 (m _x : Bool) (digit : Nat) (b1 b2 b3 : Byte) : Instr :=
  match digit with
  | 0 => .brk b1
  | 1 => .oraIndDpX b1
  | 2 => .cop b1
  | 3 => .oraSr b1
  | 4 => .tsbDp b1
  | 5 => .oraDp b1
  | 6 => .aslDp b1
  | 7 => .oraLongIndDp b1
  | 8 => .php
  | 9 => .oraConst (constField m b2 b1)
  | 10 => .aslAcc
  | 11 => .phd
  | 12 => .tsbAddr (joinWord b2 b1)
  | 13 => .oraAddr (joinWord b2 b1)
  | 14 => .aslAddr (joinWord b2 b1)
  | _ => .oraLong (bankAddr b3 (joinWord b2 b1))

/-- The opcodes $10 to $1F, by the low digit (R102). -/
def decodeRow1 (_m _x : Bool) (digit : Nat) (b1 b2 b3 : Byte) : Instr :=
  match digit with
  | 0 => .bpl b1
  | 1 => .oraIndDpY b1
  | 2 => .oraIndDp b1
  | 3 => .oraIndSrY b1
  | 4 => .trbDp b1
  | 5 => .oraDpX b1
  | 6 => .aslDpX b1
  | 7 => .oraLongIndDpY b1
  | 8 => .clc
  | 9 => .oraAddrY (joinWord b2 b1)
  | 10 => .incAcc
  | 11 => .tcs
  | 12 => .trbAddr (joinWord b2 b1)
  | 13 => .oraAddrX (joinWord b2 b1)
  | 14 => .aslAddrX (joinWord b2 b1)
  | _ => .oraLongX (bankAddr b3 (joinWord b2 b1))

/-- The opcodes $20 to $2F, by the low digit (R102). -/
def decodeRow2 (m _x : Bool) (digit : Nat) (b1 b2 b3 : Byte) : Instr :=
  match digit with
  | 0 => .jsrAddr (joinWord b2 b1)
  | 1 => .andIndDpX b1
  | 2 => .jsl (bankAddr b3 (joinWord b2 b1))
  | 3 => .andSr b1
  | 4 => .bitDp b1
  | 5 => .andDp b1
  | 6 => .rolDp b1
  | 7 => .andLongIndDp b1
  | 8 => .plp
  | 9 => .andConst (constField m b2 b1)
  | 10 => .rolAcc
  | 11 => .pld
  | 12 => .bitAddr (joinWord b2 b1)
  | 13 => .andAddr (joinWord b2 b1)
  | 14 => .rolAddr (joinWord b2 b1)
  | _ => .andLong (bankAddr b3 (joinWord b2 b1))

/-- The opcodes $30 to $3F, by the low digit (R102). -/
def decodeRow3 (_m _x : Bool) (digit : Nat) (b1 b2 b3 : Byte) : Instr :=
  match digit with
  | 0 => .bmi b1
  | 1 => .andIndDpY b1
  | 2 => .andIndDp b1
  | 3 => .andIndSrY b1
  | 4 => .bitDpX b1
  | 5 => .andDpX b1
  | 6 => .rolDpX b1
  | 7 => .andLongIndDpY b1
  | 8 => .sec
  | 9 => .andAddrY (joinWord b2 b1)
  | 10 => .decAcc
  | 11 => .tsc
  | 12 => .bitAddrX (joinWord b2 b1)
  | 13 => .andAddrX (joinWord b2 b1)
  | 14 => .rolAddrX (joinWord b2 b1)
  | _ => .andLongX (bankAddr b3 (joinWord b2 b1))

/-- The opcodes $40 to $4F, by the low digit (R102). -/
def decodeRow4 (m _x : Bool) (digit : Nat) (b1 b2 b3 : Byte) : Instr :=
  match digit with
  | 0 => .rti
  | 1 => .eorIndDpX b1
  | 2 => .wdm b1
  | 3 => .eorSr b1
  | 4 => .mvp b2 b1
  | 5 => .eorDp b1
  | 6 => .lsrDp b1
  | 7 => .eorLongIndDp b1
  | 8 => .pha
  | 9 => .eorConst (constField m b2 b1)
  | 10 => .lsrAcc
  | 11 => .phk
  | 12 => .jmpAddr (joinWord b2 b1)
  | 13 => .eorAddr (joinWord b2 b1)
  | 14 => .lsrAddr (joinWord b2 b1)
  | _ => .eorLong (bankAddr b3 (joinWord b2 b1))

/-- The opcodes $50 to $5F, by the low digit (R102). -/
def decodeRow5 (_m _x : Bool) (digit : Nat) (b1 b2 b3 : Byte) : Instr :=
  match digit with
  | 0 => .bvc b1
  | 1 => .eorIndDpY b1
  | 2 => .eorIndDp b1
  | 3 => .eorIndSrY b1
  | 4 => .mvn b2 b1
  | 5 => .eorDpX b1
  | 6 => .lsrDpX b1
  | 7 => .eorLongIndDpY b1
  | 8 => .cli
  | 9 => .eorAddrY (joinWord b2 b1)
  | 10 => .phy
  | 11 => .tcd
  | 12 => .jmpLong (bankAddr b3 (joinWord b2 b1))
  | 13 => .eorAddrX (joinWord b2 b1)
  | 14 => .lsrAddrX (joinWord b2 b1)
  | _ => .eorLongX (bankAddr b3 (joinWord b2 b1))

/-- The opcodes $60 to $6F, by the low digit (R102). -/
def decodeRow6 (m _x : Bool) (digit : Nat) (b1 b2 b3 : Byte) : Instr :=
  match digit with
  | 0 => .rts
  | 1 => .adcIndDpX b1
  | 2 => .per (joinWord b2 b1)
  | 3 => .adcSr b1
  | 4 => .stzDp b1
  | 5 => .adcDp b1
  | 6 => .rorDp b1
  | 7 => .adcLongIndDp b1
  | 8 => .pla
  | 9 => .adcConst (constField m b2 b1)
  | 10 => .rorAcc
  | 11 => .rtl
  | 12 => .jmpIndAddr (joinWord b2 b1)
  | 13 => .adcAddr (joinWord b2 b1)
  | 14 => .rorAddr (joinWord b2 b1)
  | _ => .adcLong (bankAddr b3 (joinWord b2 b1))

/-- The opcodes $70 to $7F, by the low digit (R102). -/
def decodeRow7 (_m _x : Bool) (digit : Nat) (b1 b2 b3 : Byte) : Instr :=
  match digit with
  | 0 => .bvs b1
  | 1 => .adcIndDpY b1
  | 2 => .adcIndDp b1
  | 3 => .adcIndSrY b1
  | 4 => .stzDpX b1
  | 5 => .adcDpX b1
  | 6 => .rorDpX b1
  | 7 => .adcLongIndDpY b1
  | 8 => .sei
  | 9 => .adcAddrY (joinWord b2 b1)
  | 10 => .ply
  | 11 => .tdc
  | 12 => .jmpIndAddrX (joinWord b2 b1)
  | 13 => .adcAddrX (joinWord b2 b1)
  | 14 => .rorAddrX (joinWord b2 b1)
  | _ => .adcLongX (bankAddr b3 (joinWord b2 b1))

/-- The opcodes $80 to $8F, by the low digit (R102). -/
def decodeRow8 (m _x : Bool) (digit : Nat) (b1 b2 b3 : Byte) : Instr :=
  match digit with
  | 0 => .bra b1
  | 1 => .staIndDpX b1
  | 2 => .brl (joinWord b2 b1)
  | 3 => .staSr b1
  | 4 => .styDp b1
  | 5 => .staDp b1
  | 6 => .stxDp b1
  | 7 => .staLongIndDp b1
  | 8 => .dey
  | 9 => .bitConst (constField m b2 b1)
  | 10 => .txa
  | 11 => .phb
  | 12 => .styAddr (joinWord b2 b1)
  | 13 => .staAddr (joinWord b2 b1)
  | 14 => .stxAddr (joinWord b2 b1)
  | _ => .staLong (bankAddr b3 (joinWord b2 b1))

/-- The opcodes $90 to $9F, by the low digit (R102). -/
def decodeRow9 (_m _x : Bool) (digit : Nat) (b1 b2 b3 : Byte) : Instr :=
  match digit with
  | 0 => .bcc b1
  | 1 => .staIndDpY b1
  | 2 => .staIndDp b1
  | 3 => .staIndSrY b1
  | 4 => .styDpX b1
  | 5 => .staDpX b1
  | 6 => .stxDpY b1
  | 7 => .staLongIndDpY b1
  | 8 => .tya
  | 9 => .staAddrY (joinWord b2 b1)
  | 10 => .txs
  | 11 => .txy
  | 12 => .stzAddr (joinWord b2 b1)
  | 13 => .staAddrX (joinWord b2 b1)
  | 14 => .stzAddrX (joinWord b2 b1)
  | _ => .staLongX (bankAddr b3 (joinWord b2 b1))

/-- The opcodes $A0 to $AF, by the low digit (R102). -/
def decodeRowA (m x : Bool) (digit : Nat) (b1 b2 b3 : Byte) : Instr :=
  match digit with
  | 0 => .ldyConst (constField x b2 b1)
  | 1 => .ldaIndDpX b1
  | 2 => .ldxConst (constField x b2 b1)
  | 3 => .ldaSr b1
  | 4 => .ldyDp b1
  | 5 => .ldaDp b1
  | 6 => .ldxDp b1
  | 7 => .ldaLongIndDp b1
  | 8 => .tay
  | 9 => .ldaConst (constField m b2 b1)
  | 10 => .tax
  | 11 => .plb
  | 12 => .ldyAddr (joinWord b2 b1)
  | 13 => .ldaAddr (joinWord b2 b1)
  | 14 => .ldxAddr (joinWord b2 b1)
  | _ => .ldaLong (bankAddr b3 (joinWord b2 b1))

/-- The opcodes $B0 to $BF, by the low digit (R102). -/
def decodeRowB (_m _x : Bool) (digit : Nat) (b1 b2 b3 : Byte) : Instr :=
  match digit with
  | 0 => .bcs b1
  | 1 => .ldaIndDpY b1
  | 2 => .ldaIndDp b1
  | 3 => .ldaIndSrY b1
  | 4 => .ldyDpX b1
  | 5 => .ldaDpX b1
  | 6 => .ldxDpY b1
  | 7 => .ldaLongIndDpY b1
  | 8 => .clv
  | 9 => .ldaAddrY (joinWord b2 b1)
  | 10 => .tsx
  | 11 => .tyx
  | 12 => .ldyAddrX (joinWord b2 b1)
  | 13 => .ldaAddrX (joinWord b2 b1)
  | 14 => .ldxAddrY (joinWord b2 b1)
  | _ => .ldaLongX (bankAddr b3 (joinWord b2 b1))

/-- The opcodes $C0 to $CF, by the low digit (R102). -/
def decodeRowC (m x : Bool) (digit : Nat) (b1 b2 b3 : Byte) : Instr :=
  match digit with
  | 0 => .cpyConst (constField x b2 b1)
  | 1 => .cmpIndDpX b1
  | 2 => .rep b1
  | 3 => .cmpSr b1
  | 4 => .cpyDp b1
  | 5 => .cmpDp b1
  | 6 => .decDp b1
  | 7 => .cmpLongIndDp b1
  | 8 => .iny
  | 9 => .cmpConst (constField m b2 b1)
  | 10 => .dex
  | 11 => .wai
  | 12 => .cpyAddr (joinWord b2 b1)
  | 13 => .cmpAddr (joinWord b2 b1)
  | 14 => .decAddr (joinWord b2 b1)
  | _ => .cmpLong (bankAddr b3 (joinWord b2 b1))

/-- The opcodes $D0 to $DF, by the low digit (R102). -/
def decodeRowD (_m _x : Bool) (digit : Nat) (b1 b2 b3 : Byte) : Instr :=
  match digit with
  | 0 => .bne b1
  | 1 => .cmpIndDpY b1
  | 2 => .cmpIndDp b1
  | 3 => .cmpIndSrY b1
  | 4 => .pei b1
  | 5 => .cmpDpX b1
  | 6 => .decDpX b1
  | 7 => .cmpLongIndDpY b1
  | 8 => .cld
  | 9 => .cmpAddrY (joinWord b2 b1)
  | 10 => .phx
  | 11 => .stp
  | 12 => .jmpLongIndAddr (joinWord b2 b1)
  | 13 => .cmpAddrX (joinWord b2 b1)
  | 14 => .decAddrX (joinWord b2 b1)
  | _ => .cmpLongX (bankAddr b3 (joinWord b2 b1))

/-- The opcodes $E0 to $EF, by the low digit (R102). -/
def decodeRowE (m x : Bool) (digit : Nat) (b1 b2 b3 : Byte) : Instr :=
  match digit with
  | 0 => .cpxConst (constField x b2 b1)
  | 1 => .sbcIndDpX b1
  | 2 => .sep b1
  | 3 => .sbcSr b1
  | 4 => .cpxDp b1
  | 5 => .sbcDp b1
  | 6 => .incDp b1
  | 7 => .sbcLongIndDp b1
  | 8 => .inx
  | 9 => .sbcConst (constField m b2 b1)
  | 10 => .nop
  | 11 => .xba
  | 12 => .cpxAddr (joinWord b2 b1)
  | 13 => .sbcAddr (joinWord b2 b1)
  | 14 => .incAddr (joinWord b2 b1)
  | _ => .sbcLong (bankAddr b3 (joinWord b2 b1))

/-- The opcodes $F0 to $FF, by the low digit (R102). -/
def decodeRowF (_m _x : Bool) (digit : Nat) (b1 b2 b3 : Byte) : Instr :=
  match digit with
  | 0 => .beq b1
  | 1 => .sbcIndDpY b1
  | 2 => .sbcIndDp b1
  | 3 => .sbcIndSrY b1
  | 4 => .pea (joinWord b2 b1)
  | 5 => .sbcDpX b1
  | 6 => .incDpX b1
  | 7 => .sbcLongIndDpY b1
  | 8 => .sed
  | 9 => .sbcAddrY (joinWord b2 b1)
  | 10 => .plx
  | 11 => .xce
  | 12 => .jsrIndAddrX (joinWord b2 b1)
  | 13 => .sbcAddrX (joinWord b2 b1)
  | 14 => .incAddrX (joinWord b2 b1)
  | _ => .sbcLongX (bankAddr b3 (joinWord b2 b1))

/-- The instruction of an opcode byte `b0` and the three bytes after it, of which it uses what its length takes (R97).
Every opcode byte decodes (R104). -/
def decodeBytes (m x : Bool) (b0 b1 b2 b3 : Byte) : Instr :=
  let digit := b0.toNat % 16
  match b0.toNat / 16 with
  | 0 => decodeRow0 m x digit b1 b2 b3
  | 1 => decodeRow1 m x digit b1 b2 b3
  | 2 => decodeRow2 m x digit b1 b2 b3
  | 3 => decodeRow3 m x digit b1 b2 b3
  | 4 => decodeRow4 m x digit b1 b2 b3
  | 5 => decodeRow5 m x digit b1 b2 b3
  | 6 => decodeRow6 m x digit b1 b2 b3
  | 7 => decodeRow7 m x digit b1 b2 b3
  | 8 => decodeRow8 m x digit b1 b2 b3
  | 9 => decodeRow9 m x digit b1 b2 b3
  | 10 => decodeRowA m x digit b1 b2 b3
  | 11 => decodeRowB m x digit b1 b2 b3
  | 12 => decodeRowC m x digit b1 b2 b3
  | 13 => decodeRowD m x digit b1 b2 b3
  | 14 => decodeRowE m x digit b1 b2 b3
  | _ => decodeRowF m x digit b1 b2 b3

/-- Why bytes are no instruction. No opcode is illegal (R104): bytes can only be too few. -/
inductive DecodeError where
  /-- There is no byte at all. -/
  | noOpcode
  /-- The bytes end inside the instruction of this opcode. -/
  | truncated (opcode : Byte)
deriving DecidableEq, Repr

/-- The decoder: the first instruction of a sequence of bytes, and the bytes after it (R92, R97). -/
def decode (m x : Bool) (bytes : List Byte) : Except DecodeError (Instr × List Byte) :=
  match bytes with
  | [] => .error .noOpcode
  | b0 :: rest =>
    let i := decodeBytes m x b0 (rest.getD 0 0x00#8) (rest.getD 1 0x00#8) (rest.getD 2 0x00#8)
    let operands := i.length m x - 1
    if rest.length < operands then .error (.truncated b0) else .ok (i, rest.drop operands)

/-- A 16-bit field, low byte first (R97). -/
def wordBytes (v : Word) : List Byte := [lo v, hi v]

/-- A 24-bit field, low byte first, the bank last (R97). -/
def longBytes (a : Addr) : List Byte := [lo (addrOffset a), hi (addrOffset a), addrBank a]

/-- A `const` of variable size (R98). -/
def constBytes (narrow : Bool) (v : Word) : List Byte := if narrow then [lo v] else wordBytes v

/-- The encoder: the bytes of an instruction, the opcode first (R91, R97, R100, R102). -/
def encode (m x : Bool) (i : Instr) : List Byte :=
  match i with
  | .brk signature => [0x00#8, signature]
  | .oraIndDpX dp => [0x01#8, dp]
  | .cop signature => [0x02#8, signature]
  | .oraSr sr => [0x03#8, sr]
  | .tsbDp dp => [0x04#8, dp]
  | .oraDp dp => [0x05#8, dp]
  | .aslDp dp => [0x06#8, dp]
  | .oraLongIndDp dp => [0x07#8, dp]
  | .php => [0x08#8]
  | .oraConst const => 0x09#8 :: constBytes m const
  | .aslAcc => [0x0A#8]
  | .phd => [0x0B#8]
  | .tsbAddr addr => 0x0C#8 :: wordBytes addr
  | .oraAddr addr => 0x0D#8 :: wordBytes addr
  | .aslAddr addr => 0x0E#8 :: wordBytes addr
  | .oraLong long => 0x0F#8 :: longBytes long
  | .bpl disp => [0x10#8, disp]
  | .oraIndDpY dp => [0x11#8, dp]
  | .oraIndDp dp => [0x12#8, dp]
  | .oraIndSrY sr => [0x13#8, sr]
  | .trbDp dp => [0x14#8, dp]
  | .oraDpX dp => [0x15#8, dp]
  | .aslDpX dp => [0x16#8, dp]
  | .oraLongIndDpY dp => [0x17#8, dp]
  | .clc => [0x18#8]
  | .oraAddrY addr => 0x19#8 :: wordBytes addr
  | .incAcc => [0x1A#8]
  | .tcs => [0x1B#8]
  | .trbAddr addr => 0x1C#8 :: wordBytes addr
  | .oraAddrX addr => 0x1D#8 :: wordBytes addr
  | .aslAddrX addr => 0x1E#8 :: wordBytes addr
  | .oraLongX long => 0x1F#8 :: longBytes long
  | .jsrAddr addr => 0x20#8 :: wordBytes addr
  | .andIndDpX dp => [0x21#8, dp]
  | .jsl long => 0x22#8 :: longBytes long
  | .andSr sr => [0x23#8, sr]
  | .bitDp dp => [0x24#8, dp]
  | .andDp dp => [0x25#8, dp]
  | .rolDp dp => [0x26#8, dp]
  | .andLongIndDp dp => [0x27#8, dp]
  | .plp => [0x28#8]
  | .andConst const => 0x29#8 :: constBytes m const
  | .rolAcc => [0x2A#8]
  | .pld => [0x2B#8]
  | .bitAddr addr => 0x2C#8 :: wordBytes addr
  | .andAddr addr => 0x2D#8 :: wordBytes addr
  | .rolAddr addr => 0x2E#8 :: wordBytes addr
  | .andLong long => 0x2F#8 :: longBytes long
  | .bmi disp => [0x30#8, disp]
  | .andIndDpY dp => [0x31#8, dp]
  | .andIndDp dp => [0x32#8, dp]
  | .andIndSrY sr => [0x33#8, sr]
  | .bitDpX dp => [0x34#8, dp]
  | .andDpX dp => [0x35#8, dp]
  | .rolDpX dp => [0x36#8, dp]
  | .andLongIndDpY dp => [0x37#8, dp]
  | .sec => [0x38#8]
  | .andAddrY addr => 0x39#8 :: wordBytes addr
  | .decAcc => [0x3A#8]
  | .tsc => [0x3B#8]
  | .bitAddrX addr => 0x3C#8 :: wordBytes addr
  | .andAddrX addr => 0x3D#8 :: wordBytes addr
  | .rolAddrX addr => 0x3E#8 :: wordBytes addr
  | .andLongX long => 0x3F#8 :: longBytes long
  | .rti => [0x40#8]
  | .eorIndDpX dp => [0x41#8, dp]
  | .wdm signature => [0x42#8, signature]
  | .eorSr sr => [0x43#8, sr]
  | .mvp src dest => [0x44#8, dest, src]
  | .eorDp dp => [0x45#8, dp]
  | .lsrDp dp => [0x46#8, dp]
  | .eorLongIndDp dp => [0x47#8, dp]
  | .pha => [0x48#8]
  | .eorConst const => 0x49#8 :: constBytes m const
  | .lsrAcc => [0x4A#8]
  | .phk => [0x4B#8]
  | .jmpAddr addr => 0x4C#8 :: wordBytes addr
  | .eorAddr addr => 0x4D#8 :: wordBytes addr
  | .lsrAddr addr => 0x4E#8 :: wordBytes addr
  | .eorLong long => 0x4F#8 :: longBytes long
  | .bvc disp => [0x50#8, disp]
  | .eorIndDpY dp => [0x51#8, dp]
  | .eorIndDp dp => [0x52#8, dp]
  | .eorIndSrY sr => [0x53#8, sr]
  | .mvn src dest => [0x54#8, dest, src]
  | .eorDpX dp => [0x55#8, dp]
  | .lsrDpX dp => [0x56#8, dp]
  | .eorLongIndDpY dp => [0x57#8, dp]
  | .cli => [0x58#8]
  | .eorAddrY addr => 0x59#8 :: wordBytes addr
  | .phy => [0x5A#8]
  | .tcd => [0x5B#8]
  | .jmpLong long => 0x5C#8 :: longBytes long
  | .eorAddrX addr => 0x5D#8 :: wordBytes addr
  | .lsrAddrX addr => 0x5E#8 :: wordBytes addr
  | .eorLongX long => 0x5F#8 :: longBytes long
  | .rts => [0x60#8]
  | .adcIndDpX dp => [0x61#8, dp]
  | .per disp => 0x62#8 :: wordBytes disp
  | .adcSr sr => [0x63#8, sr]
  | .stzDp dp => [0x64#8, dp]
  | .adcDp dp => [0x65#8, dp]
  | .rorDp dp => [0x66#8, dp]
  | .adcLongIndDp dp => [0x67#8, dp]
  | .pla => [0x68#8]
  | .adcConst const => 0x69#8 :: constBytes m const
  | .rorAcc => [0x6A#8]
  | .rtl => [0x6B#8]
  | .jmpIndAddr addr => 0x6C#8 :: wordBytes addr
  | .adcAddr addr => 0x6D#8 :: wordBytes addr
  | .rorAddr addr => 0x6E#8 :: wordBytes addr
  | .adcLong long => 0x6F#8 :: longBytes long
  | .bvs disp => [0x70#8, disp]
  | .adcIndDpY dp => [0x71#8, dp]
  | .adcIndDp dp => [0x72#8, dp]
  | .adcIndSrY sr => [0x73#8, sr]
  | .stzDpX dp => [0x74#8, dp]
  | .adcDpX dp => [0x75#8, dp]
  | .rorDpX dp => [0x76#8, dp]
  | .adcLongIndDpY dp => [0x77#8, dp]
  | .sei => [0x78#8]
  | .adcAddrY addr => 0x79#8 :: wordBytes addr
  | .ply => [0x7A#8]
  | .tdc => [0x7B#8]
  | .jmpIndAddrX addr => 0x7C#8 :: wordBytes addr
  | .adcAddrX addr => 0x7D#8 :: wordBytes addr
  | .rorAddrX addr => 0x7E#8 :: wordBytes addr
  | .adcLongX long => 0x7F#8 :: longBytes long
  | .bra disp => [0x80#8, disp]
  | .staIndDpX dp => [0x81#8, dp]
  | .brl disp => 0x82#8 :: wordBytes disp
  | .staSr sr => [0x83#8, sr]
  | .styDp dp => [0x84#8, dp]
  | .staDp dp => [0x85#8, dp]
  | .stxDp dp => [0x86#8, dp]
  | .staLongIndDp dp => [0x87#8, dp]
  | .dey => [0x88#8]
  | .bitConst const => 0x89#8 :: constBytes m const
  | .txa => [0x8A#8]
  | .phb => [0x8B#8]
  | .styAddr addr => 0x8C#8 :: wordBytes addr
  | .staAddr addr => 0x8D#8 :: wordBytes addr
  | .stxAddr addr => 0x8E#8 :: wordBytes addr
  | .staLong long => 0x8F#8 :: longBytes long
  | .bcc disp => [0x90#8, disp]
  | .staIndDpY dp => [0x91#8, dp]
  | .staIndDp dp => [0x92#8, dp]
  | .staIndSrY sr => [0x93#8, sr]
  | .styDpX dp => [0x94#8, dp]
  | .staDpX dp => [0x95#8, dp]
  | .stxDpY dp => [0x96#8, dp]
  | .staLongIndDpY dp => [0x97#8, dp]
  | .tya => [0x98#8]
  | .staAddrY addr => 0x99#8 :: wordBytes addr
  | .txs => [0x9A#8]
  | .txy => [0x9B#8]
  | .stzAddr addr => 0x9C#8 :: wordBytes addr
  | .staAddrX addr => 0x9D#8 :: wordBytes addr
  | .stzAddrX addr => 0x9E#8 :: wordBytes addr
  | .staLongX long => 0x9F#8 :: longBytes long
  | .ldyConst const => 0xA0#8 :: constBytes x const
  | .ldaIndDpX dp => [0xA1#8, dp]
  | .ldxConst const => 0xA2#8 :: constBytes x const
  | .ldaSr sr => [0xA3#8, sr]
  | .ldyDp dp => [0xA4#8, dp]
  | .ldaDp dp => [0xA5#8, dp]
  | .ldxDp dp => [0xA6#8, dp]
  | .ldaLongIndDp dp => [0xA7#8, dp]
  | .tay => [0xA8#8]
  | .ldaConst const => 0xA9#8 :: constBytes m const
  | .tax => [0xAA#8]
  | .plb => [0xAB#8]
  | .ldyAddr addr => 0xAC#8 :: wordBytes addr
  | .ldaAddr addr => 0xAD#8 :: wordBytes addr
  | .ldxAddr addr => 0xAE#8 :: wordBytes addr
  | .ldaLong long => 0xAF#8 :: longBytes long
  | .bcs disp => [0xB0#8, disp]
  | .ldaIndDpY dp => [0xB1#8, dp]
  | .ldaIndDp dp => [0xB2#8, dp]
  | .ldaIndSrY sr => [0xB3#8, sr]
  | .ldyDpX dp => [0xB4#8, dp]
  | .ldaDpX dp => [0xB5#8, dp]
  | .ldxDpY dp => [0xB6#8, dp]
  | .ldaLongIndDpY dp => [0xB7#8, dp]
  | .clv => [0xB8#8]
  | .ldaAddrY addr => 0xB9#8 :: wordBytes addr
  | .tsx => [0xBA#8]
  | .tyx => [0xBB#8]
  | .ldyAddrX addr => 0xBC#8 :: wordBytes addr
  | .ldaAddrX addr => 0xBD#8 :: wordBytes addr
  | .ldxAddrY addr => 0xBE#8 :: wordBytes addr
  | .ldaLongX long => 0xBF#8 :: longBytes long
  | .cpyConst const => 0xC0#8 :: constBytes x const
  | .cmpIndDpX dp => [0xC1#8, dp]
  | .rep const => [0xC2#8, const]
  | .cmpSr sr => [0xC3#8, sr]
  | .cpyDp dp => [0xC4#8, dp]
  | .cmpDp dp => [0xC5#8, dp]
  | .decDp dp => [0xC6#8, dp]
  | .cmpLongIndDp dp => [0xC7#8, dp]
  | .iny => [0xC8#8]
  | .cmpConst const => 0xC9#8 :: constBytes m const
  | .dex => [0xCA#8]
  | .wai => [0xCB#8]
  | .cpyAddr addr => 0xCC#8 :: wordBytes addr
  | .cmpAddr addr => 0xCD#8 :: wordBytes addr
  | .decAddr addr => 0xCE#8 :: wordBytes addr
  | .cmpLong long => 0xCF#8 :: longBytes long
  | .bne disp => [0xD0#8, disp]
  | .cmpIndDpY dp => [0xD1#8, dp]
  | .cmpIndDp dp => [0xD2#8, dp]
  | .cmpIndSrY sr => [0xD3#8, sr]
  | .pei dp => [0xD4#8, dp]
  | .cmpDpX dp => [0xD5#8, dp]
  | .decDpX dp => [0xD6#8, dp]
  | .cmpLongIndDpY dp => [0xD7#8, dp]
  | .cld => [0xD8#8]
  | .cmpAddrY addr => 0xD9#8 :: wordBytes addr
  | .phx => [0xDA#8]
  | .stp => [0xDB#8]
  | .jmpLongIndAddr addr => 0xDC#8 :: wordBytes addr
  | .cmpAddrX addr => 0xDD#8 :: wordBytes addr
  | .decAddrX addr => 0xDE#8 :: wordBytes addr
  | .cmpLongX long => 0xDF#8 :: longBytes long
  | .cpxConst const => 0xE0#8 :: constBytes x const
  | .sbcIndDpX dp => [0xE1#8, dp]
  | .sep const => [0xE2#8, const]
  | .sbcSr sr => [0xE3#8, sr]
  | .cpxDp dp => [0xE4#8, dp]
  | .sbcDp dp => [0xE5#8, dp]
  | .incDp dp => [0xE6#8, dp]
  | .sbcLongIndDp dp => [0xE7#8, dp]
  | .inx => [0xE8#8]
  | .sbcConst const => 0xE9#8 :: constBytes m const
  | .nop => [0xEA#8]
  | .xba => [0xEB#8]
  | .cpxAddr addr => 0xEC#8 :: wordBytes addr
  | .sbcAddr addr => 0xED#8 :: wordBytes addr
  | .incAddr addr => 0xEE#8 :: wordBytes addr
  | .sbcLong long => 0xEF#8 :: longBytes long
  | .beq disp => [0xF0#8, disp]
  | .sbcIndDpY dp => [0xF1#8, dp]
  | .sbcIndDp dp => [0xF2#8, dp]
  | .sbcIndSrY sr => [0xF3#8, sr]
  | .pea const => 0xF4#8 :: wordBytes const
  | .sbcDpX dp => [0xF5#8, dp]
  | .incDpX dp => [0xF6#8, dp]
  | .sbcLongIndDpY dp => [0xF7#8, dp]
  | .sed => [0xF8#8]
  | .sbcAddrY addr => 0xF9#8 :: wordBytes addr
  | .plx => [0xFA#8]
  | .xce => [0xFB#8]
  | .jsrIndAddrX addr => 0xFC#8 :: wordBytes addr
  | .sbcAddrX addr => 0xFD#8 :: wordBytes addr
  | .incAddrX addr => 0xFE#8 :: wordBytes addr
  | .sbcLongX long => 0xFF#8 :: longBytes long

/-- Byte `k` of a number of `nbits` bits, the lowest first; the bits above `nbits` are zero. -/
def tableByte (nbits w k : Nat) : Byte := BitVec.ofNat 8 (w % 2 ^ nbits / 256 ^ k)

/-- What the decoder reads from a row of the opcode table, as the table numbers its bits: the first byte is bits 7..0.
The flags are m = x = 1, as they are after reset (log 15). -/
def decodeTableWord (nbits w : Nat) : Option Instr :=
  match decode true true [tableByte nbits w 0, tableByte nbits w 1, tableByte nbits w 2, tableByte nbits w 3] with
  | .ok (i, _) => some i
  | .error _ => none

end Sys2Proof
end

