-- ==== Sys2Proof/Machine/Fetch.lean ====
section
/-! DEFINITION. Fetching an instruction (10_state.md R31, R32; 30_encoding.md R97), and placing one where the next step
fetches it. -/

namespace Sys2Proof.Machine

/-- The address of byte `k` of the instruction at PC: inside the program bank (R32). -/
def State.fetchAddr (s : State) (k : Nat) : Addr := bankAddr s.pbr (s.pcNext k)

/-- Byte `k` of the instruction at PC. -/
def State.fetchByte (s : State) (k : Nat) : Byte := s.readByte .fetch (s.fetchAddr k)

/-- The instruction at `PBR:PC`, decoded with the current m and x (R7, R94). -/
def State.fetchInstr (s : State) : Instr :=
  decodeBytes (s.flag .m) (s.flag .x) (s.fetchByte 0) (s.fetchByte 1) (s.fetchByte 2) (s.fetchByte 3)

/-- A byte placed in memory from outside, where a fetch will read it: a location that is a device becomes RAM. -/
def State.placeByte (s : State) (a : Addr) (v : Byte) : State :=
  { s with
    mem := s.mem.write a.toNat v
    platform := if s.kindAt a = .device then { first := a.toNat, size := 1, kind := .ram } :: s.platform else s.platform }

/-- The four bytes of a table word placed at PC, the bits above `nbits` zero. -/
def State.placeTableWord (s : State) (nbits w : Nat) : State :=
  (((s.placeByte (s.fetchAddr 0) (tableByte nbits w 0)).placeByte (s.fetchAddr 1) (tableByte nbits w 1)).placeByte
    (s.fetchAddr 2) (tableByte nbits w 2)).placeByte (s.fetchAddr 3) (tableByte nbits w 3)

/-- A machine whose next step fetches: running, no NMI latched, nothing asserted at the next step. -/
def State.readyToFetch (s : State) : State :=
  { s with
    run := .running
    nmiPending := false
    inputs := match s.inputs with
      | [] => []
      | _ :: rest => Inputs.inactive :: rest }

end Sys2Proof.Machine
end

