-- ==== Sys2Proof/Machine/Interrupts.lean ====
section
/-! DEFINITION. The look at the inputs before every fetch (60_exceptions.md R344, 00_scope.md R7). -/

namespace Sys2Proof.Machine

/-- What `Env` asserts at this step; past the end of the list nothing (log 5). -/
def State.currentInputs (s : State) : Inputs := s.inputs.headD Inputs.inactive

/-- The model's own bookkeeping of a step: the sample is used up, and the step draws at a number of its own (log 9). -/
def State.beginStep (s : State) : State :=
  { s with inputs := s.inputs.tail, drawCount := s.drawCount + 1 }

/-- An interrupt taken at a boundary: the run goes on in the handler; the address pushed is the current PC (R344). -/
def State.takeInterrupt (s : State) (cause : TrapCause) : State :=
  State.takeTrap { s with run := .running } cause s.pc

/-- What a step does at a boundary: answer at once, or run one instruction in a state. -/
inductive Boundary where
  | answer (r : Result)
  | execute (s : State)

/-- nmi_pending after a step's sample: an edge sets it (R342, R344). -/
def State.latchNmi (s : State) (i : Inputs) : State := { s with nmiPending := s.nmiPending || i.nmiEdge }

/-- The look at the inputs of a machine that is neither being reset nor stopped, in the order of rules R344 and R348:
ABORT, NMI, an unmasked IRQ, a masked IRQ that ends waiting, waiting, the instruction. -/
def State.look (s : State) (i : Inputs) : Boundary :=
  if i.abort then .answer (.refused .abortAsserted)
  else if s.nmiPending then .answer (.next (State.takeInterrupt { s with nmiPending := false } .nmi))
  else if i.irq && !s.flag .i then .answer (.next (s.takeInterrupt .irq))
  else if s.run = .waiting then .answer (.next (if i.irq then { s with run := .running } else s))
  else .execute s

/-- A step up to the fetch (R7): RESET first, then nothing while stopped, then the look at the inputs. -/
def State.boundary (s : State) : Boundary :=
  let i := s.currentInputs
  let t := s.beginStep
  if i.reset then .answer (.next t.resetSequence)
  else if t.run = .stopped then .answer (.next t)
  else (t.latchNmi i).look i

end Sys2Proof.Machine
end

