-- ==== Sys2Proof/Machine/Step.lean ====
section
/-! DEFINITION. One step of the machine (00_scope.md R7), and an instruction placed where the step fetches its next one. -/

namespace Sys2Proof.Machine

/-- One step (R7): RESET, a trap, waiting or stopped, or else the instruction at `PBR:PC`. -/
def step (s : State) : Host.Outcome State Fault Refusal :=
  match s.boundary with
  | .answer r => r
  | .execute t => exec t.fetchInstr t

/-- `s` with the instruction of a table word stored at `PBR:PC`, so that the very next step runs it. -/
def State.withFetchWord (s : State) (nbits w : Nat) : State := s.readyToFetch.placeTableWord nbits w

end Sys2Proof.Machine
end

