-- ==== Sys2Proof/Safety.lean ====
section
/-! DEFINITION. What a state of a run is always like, and what a run is, in the terms the statements use. -/

namespace Sys2Proof.Machine

/-- What every state of a run is like: emulation mode holds m and x at 1 and S in page 1 (R27), x = 1 holds XH and YH at 0
(R22), and memory has its canonical form. -/
structure State.Inv (s : State) : Prop where
  emulationWidths : s.e = true → s.flag .m = true ∧ s.flag .x = true
  emulationStack : s.e = true → hi s.sp = 0x01#8
  narrowIndexes : s.flag .x = true → hi s.x = 0x00#8 ∧ hi s.y = 0x00#8
  canonicalMemory : s.mem.wf = true

/-- The states a run from `s` reaches in `k` steps, none of which is refused (R7). -/
inductive Reaches : Nat → State → State → Prop where
  | refl (s : State) : Reaches 0 s s
  | step {k : Nat} {s t u : State} (h : Reaches k s t) (hstep : Machine.step t = .next u) : Reaches (k + 1) s u

end Sys2Proof.Machine
end

