-- ==== Sys2Proof/Certificates/Slice0/Obligations.lean ====
section
/-! DEFINITION. The statements for the provers. The namespace Claims holds the words they are written in: what it is for an
instruction to complete with a result, to store, to compare, to push, to enter a trap, each with its whole frame. -/

namespace Sys2Proof.Claims

open Sys2Proof.Machine

/-- Under the flags of `s` the bytes of `i` begin with the opcode `op` and are `len` in number (R91, R102). -/
def HasOpcode (s : State) (i : Instr) (op : Byte) (len : Nat) : Prop :=
  (encode (s.flag .m) (s.flag .x) i).head? = some op ∧ (encode (s.flag .m) (s.flag .x) i).length = len

/-- Every flag but those written keeps its value. -/
def FlagsKept (s t : State) (written : List Flag) : Prop := ∀ f : Flag, f ∉ written → t.flag f = s.flag f

/-- n is the top bit of a value and z says that it is zero. -/
def ShowsNZ (t : State) {w : Nat} (v : BitVec w) : Prop :=
  t.flag .n = v.getLsbD (w - 1) ∧ t.flag .z = decide (v.toNat = 0)

/-- PC stands after an instruction of `len` bytes, inside its bank (R32). -/
def PastInstr (s t : State) (len : Nat) : Prop := t.pc.toNat = (s.pc.toNat + len) % 65536

/-- `i` completes: the accumulator at the width of m holds `f` of the operand, B is kept when m = 1, n and z show the
result; nothing else changes but PC. -/
def PutsInAcc (s : State) (i : Instr) (op : Byte) (o : Operand)
    (f : (w : Width) → BitVec w.bits → BitVec w.bits) : Prop :=
  HasOpcode s i op (o.length s.wA) ∧ ∃ t, exec i s = .next t ∧
    t = { s with c := t.c, p := t.p, pc := t.pc } ∧
    t.acc s.wA = f s.wA (o.read s s.wA) ∧ (s.flag .m = true → hi t.c = hi s.c) ∧
    ShowsNZ t (f s.wA (o.read s s.wA)) ∧ FlagsKept s t [.n, .z] ∧ PastInstr s t (o.length s.wA)

/-- `i` completes: X holds a value at the width of x, XH is zero when x = 1, n and z show it; nothing else but PC. -/
def PutsInX (s : State) (i : Instr) (op : Byte) (len : Nat) (v : BitVec s.wXY.bits) : Prop :=
  HasOpcode s i op len ∧ ∃ t, exec i s = .next t ∧
    t = { s with x := t.x, p := t.p, pc := t.pc } ∧
    t.x.toNat = v.toNat ∧ ShowsNZ t v ∧ FlagsKept s t [.n, .z] ∧ PastInstr s t len

/-- `i` completes: Y holds a value at the width of x, YH is zero when x = 1, n and z show it; nothing else but PC. -/
def PutsInY (s : State) (i : Instr) (op : Byte) (len : Nat) (v : BitVec s.wXY.bits) : Prop :=
  HasOpcode s i op len ∧ ∃ t, exec i s = .next t ∧
    t = { s with y := t.y, p := t.p, pc := t.pc } ∧
    t.y.toNat = v.toNat ∧ ShowsNZ t v ∧ FlagsKept s t [.n, .z] ∧ PastInstr s t len

/-- The memory of `t` is that of `s` but for a value of width w stored at a location, low byte at its address and high byte
at the next one (R63, R121). RAM answers what is stored in it; of a location that is not RAM the spec says nothing (R65). -/
def Stored (s t : State) (l : Loc) (w : Width) (v : BitVec w.bits) : Prop :=
  (s.kindAt l.ea = .ram → ∀ use, (t.readByte use l.ea).toNat = v.toNat % 256) ∧
  (w = .w16 → s.kindAt l.second = .ram → ∀ use, (t.readByte use l.second).toNat = v.toNat / 256) ∧
  (∀ a : Addr, a ≠ l.ea → (w = .w16 → a ≠ l.second) → ∀ use, t.readByte use a = s.readByte use a)

/-- `i` completes: it stores a value of width w where the form says; no register and no flag changes but PC. -/
def Stores (s : State) (i : Instr) (op : Byte) (f : MemForm) (w : Width) (v : BitVec w.bits) : Prop :=
  HasOpcode s i op f.length ∧ ∃ t, exec i s = .next t ∧
    t = { s with mem := t.mem, pc := t.pc } ∧ Stored s t (f.loc s) w v ∧ PastInstr s t f.length

/-- A result goes back where the operand came from: into the accumulator (B kept when w = 8) or into memory. -/
def PutBack (s t : State) (g : Target) (w : Width) (r : BitVec w.bits) : Prop :=
  match g with
  | .acc => t.acc w = r ∧ (w = .w8 → hi t.c = hi s.c) ∧ t.mem = s.mem
  | .mem f => t.c = s.c ∧ Stored s t (f.loc s) w r

/-- `i` completes: the result, related by `rel` to the operand and the old carry and with the carry out, goes back where the
operand came from, n and z show it, and the flags not in `written` are kept. -/
def Modifies (s : State) (i : Instr) (op : Byte) (g : Target) (written : List Flag)
    (rel : (w : Width) → (operand result : Nat) → (carry carryOut : Bool) → Prop) : Prop :=
  HasOpcode s i op g.length ∧ ∃ t, ∃ r : BitVec s.wA.bits, exec i s = .next t ∧
    t = { s with c := t.c, mem := t.mem, p := t.p, pc := t.pc } ∧
    rel s.wA (g.read s s.wA).toNat r.toNat (s.flag .c) (t.flag .c) ∧
    PutBack s t g s.wA r ∧ ShowsNZ t r ∧ FlagsKept s t written ∧ PastInstr s t g.length

/-- `i` completes: z says that the old memory value and the accumulator share no set bit, `r` is stored back; nothing else
changes but PC. -/
def TestsAndStores (s : State) (i : Instr) (op : Byte) (f : MemForm) (r : BitVec s.wA.bits) : Prop :=
  HasOpcode s i op f.length ∧ ∃ t, exec i s = .next t ∧
    t = { s with mem := t.mem, p := t.p, pc := t.pc } ∧ Stored s t (f.loc s) s.wA r ∧
    t.flag .z = decide (s.readOp (f.loc s) s.wA &&& s.acc s.wA = 0#s.wA.bits) ∧ FlagsKept s t [.z] ∧
    PastInstr s t f.length

/-- `i` completes: the accumulator holds the sum (or difference) `r`, the flags are as given; nothing else but PC. -/
def Sums (s : State) (i : Instr) (op : Byte) (o : Operand)
    (rel : (w : Nat) → (acc mv r : BitVec w) → (carry c v : Bool) → Prop) : Prop :=
  HasOpcode s i op (o.length s.wA) ∧ ∃ t, exec i s = .next t ∧
    t = { s with c := t.c, p := t.p, pc := t.pc } ∧ (s.flag .m = true → hi t.c = hi s.c) ∧
    rel s.wA.bits (s.acc s.wA) (o.read s s.wA) (t.acc s.wA) (s.flag .c) (t.flag .c) (t.flag .v) ∧
    ShowsNZ t (t.acc s.wA) ∧ FlagsKept s t [.n, .v, .z, .c] ∧ PastInstr s t (o.length s.wA)

/-- ADC with d = 0 (R183). -/
def BinarySum (w : Nat) (acc mv r : BitVec w) (carry c v : Bool) : Prop :=
  r.toNat = (acc.toNat + mv.toNat + carry.toNat) % 2 ^ w ∧
  c = decide (2 ^ w ≤ acc.toNat + mv.toNat + carry.toNat) ∧
  v = (acc.getLsbD (w - 1) == mv.getLsbD (w - 1) && r.getLsbD (w - 1) != acc.getLsbD (w - 1))

/-- SBC with d = 0 (R184): c = 1 means no borrow. -/
def BinaryDifference (w : Nat) (acc mv r : BitVec w) (carry c v : Bool) : Prop :=
  r.toNat = (acc.toNat + 2 ^ w - mv.toNat - (1 - carry.toNat)) % 2 ^ w ∧
  c = decide (mv.toNat + (1 - carry.toNat) ≤ acc.toNat) ∧
  v = (acc.getLsbD (w - 1) != mv.getLsbD (w - 1) && r.getLsbD (w - 1) != acc.getLsbD (w - 1))

/-- v of an addition as signed overflow (R186). -/
def SignedSumOverflow (w : Nat) (acc mv r : BitVec w) (carry _c v : Bool) : Prop :=
  (v = true ↔ acc.toInt + mv.toInt + carry.toNat ≠ r.toInt)

/-- v of a subtraction as signed overflow (R186). -/
def SignedDifferenceOverflow (w : Nat) (acc mv r : BitVec w) (carry _c v : Bool) : Prop :=
  (v = true ↔ acc.toInt - mv.toInt - (1 - carry.toNat) ≠ r.toInt)

/-- The low `k` digits of a packed decimal number are 0 to 9. -/
def Digits : Nat → Nat → Prop
  | 0, _ => True
  | k + 1, a => a % 16 ≤ 9 ∧ Digits k (a / 16)

/-- The number that the low `k` digits of a packed decimal number stand for. -/
def decimalNumber : Nat → Nat → Nat
  | 0, _ => 0
  | k + 1, a => a % 16 + 10 * decimalNumber k (a / 16)

/-- ADC with d = 1 on valid digits: the decimal sum, c its carry (R185). -/
def DecimalSum (w : Nat) (acc mv r : BitVec w) (carry c _v : Bool) : Prop :=
  Digits (w / 4) r.toNat ∧
  decimalNumber (w / 4) r.toNat + 10 ^ (w / 4) * c.toNat =
    decimalNumber (w / 4) acc.toNat + decimalNumber (w / 4) mv.toNat + carry.toNat

/-- SBC with d = 1 on valid digits: the decimal difference, c its inverted borrow (R185). -/
def DecimalDifference (w : Nat) (acc mv r : BitVec w) (carry c _v : Bool) : Prop :=
  Digits (w / 4) r.toNat ∧
  decimalNumber (w / 4) r.toNat + decimalNumber (w / 4) mv.toNat + (1 - carry.toNat) =
    decimalNumber (w / 4) acc.toNat + 10 ^ (w / 4) * (1 - c.toNat)

/-- d = 1 and every digit of the accumulator and of the operand is 0 to 9. -/
def DecimalOperands (s : State) (o : Operand) : Prop :=
  s.flag .d = true ∧ Digits (s.wA.bits / 4) (s.acc s.wA).toNat ∧ Digits (s.wA.bits / 4) (o.read s s.wA).toNat

/-- `i` completes and changes only the accumulator (B kept when m = 1), n, v, z, c and PC, whatever the digits are. -/
def SumsSomehow (s : State) (i : Instr) (o : Operand) : Prop :=
  ∃ t, exec i s = .next t ∧ t = { s with c := t.c, p := t.p, pc := t.pc } ∧ (s.flag .m = true → hi t.c = hi s.c) ∧
    FlagsKept s t [.n, .v, .z, .c] ∧ PastInstr s t (o.length s.wA)

/-- `i` completes: n, z, c compare a register with the operand (R207); nothing else changes but PC. -/
def Compares (s : State) (i : Instr) (op : Byte) (w : Width) (reg : BitVec w.bits) (o : Operand) : Prop :=
  HasOpcode s i op (o.length w) ∧ ∃ t, exec i s = .next t ∧ t = { s with p := t.p, pc := t.pc } ∧
    ShowsNZ t (reg - o.read s w) ∧ t.flag .c = decide ((o.read s w).toNat ≤ reg.toNat) ∧
    FlagsKept s t [.n, .z, .c] ∧ PastInstr s t (o.length w)

/-- `i` is a branch of two bytes: to the target when `cond`, else to the next instruction; only PC changes (R230). -/
def Branches (s : State) (i : Instr) (op : Byte) (cond : Bool) (disp : Byte) : Prop :=
  HasOpcode s i op 2 ∧ ∃ t, exec i s = .next t ∧ t = { s with pc := t.pc } ∧
    (t.pc.toNat : Int) = (if cond then (s.pc.toNat : Int) + 2 + disp.toInt else (s.pc.toNat : Int) + 2) % 65536

/-- The address of the `k`-th byte a push stores, from S down: inside page 1 in emulation mode under the page rule (R29),
over 16 bits otherwise (R311). -/
def pushSlot (s : State) (r : StackRule) (k : Nat) : Addr :=
  bank0 (if s.e && r == .page then joinWord (hi s.sp) (lo s.sp - BitVec.ofNat 8 k) else s.sp - BitVec.ofNat 16 k)

/-- The address of the `k`-th byte a pull reads, counted from 1, from S up. -/
def pullSlot (s : State) (r : StackRule) (k : Nat) : Addr :=
  bank0 (if s.e && r == .page then joinWord (hi s.sp) (lo s.sp + BitVec.ofNat 8 k) else s.sp + BitVec.ofNat 16 k)

/-- S moved by `k` by an instruction of the 6502's own: on SL alone in emulation mode (R29). -/
def pageSp (s : State) (k : Int) : Word :=
  if s.e then joinWord (hi s.sp) (lo s.sp + BitVec.ofInt 8 k) else s.sp + BitVec.ofInt 16 k

/-- S moved by `k` by one of the nine instructions of R311: SH is $01 at the end in emulation mode. -/
def freeSp (s : State) (k : Int) : Word :=
  if s.e then joinWord 0x01#8 (lo s.sp + BitVec.ofInt 8 k) else s.sp + BitVec.ofInt 16 k

/-- The memory of `t` is that of `s` but for the given bytes, of which RAM answers those stored in it (R65). -/
def StoredBytes (s t : State) (cells : List (Addr × Byte)) : Prop :=
  (∀ q ∈ cells, s.kindAt q.1 = .ram → ∀ use, t.readByte use q.1 = q.2) ∧
  (∀ a : Addr, (∀ q ∈ cells, a ≠ q.1) → ∀ use, t.readByte use a = s.readByte use a)

/-- `i` completes: it pushes the bytes by the page rule; only S, memory and PC change. -/
def PushesPage (s : State) (i : Instr) (op : Byte) (len : Nat) (bytes : List Byte) : Prop :=
  HasOpcode s i op len ∧ ∃ t, exec i s = .next t ∧ t = { s with sp := t.sp, mem := t.mem, pc := t.pc } ∧
    StoredBytes s t (bytes.mapIdx fun k b => (pushSlot s .page k, b)) ∧
    t.sp = pageSp s (-(bytes.length : Int)) ∧ PastInstr s t len

/-- `i` completes: it pushes the bytes by the free rule; only S, memory and PC change. -/
def PushesFree (s : State) (i : Instr) (op : Byte) (len : Nat) (bytes : List Byte) : Prop :=
  HasOpcode s i op len ∧ ∃ t, exec i s = .next t ∧ t = { s with sp := t.sp, mem := t.mem, pc := t.pc } ∧
    StoredBytes s t (bytes.mapIdx fun k b => (pushSlot s .free k, b)) ∧
    t.sp = freeSp s (-(bytes.length : Int)) ∧ PastInstr s t len

/-- The bytes of a value of width w in the order they are pushed: the high byte first (R29). -/
def pushOrder (w : Width) (v : BitVec w.bits) : List Byte :=
  match w with
  | .w8 => [v]
  | .w16 => [hi v, lo v]

/-- The value of width w that a pull reads: the low byte first (R29). -/
def pulledValue (s : State) (w : Width) : BitVec w.bits :=
  match w with
  | .w8 => s.readByte .stack (pullSlot s .page 1)
  | .w16 => joinWord (s.readByte .stack (pullSlot s .page 2)) (s.readByte .stack (pullSlot s .page 1))

/-- The number of bytes of a value of width w. -/
def bytesOf (w : Width) : Int := w.bits / 8

/-- `t` is `s` after the entry of a trap (R346, R347): the frame in native mode (PBR, the return address, P) or in emulation
mode (the return address and the image of P), i set, d cleared, PBR zero, PC from the vector; nothing else changes. -/
def TrapEntered (s t : State) (nativeVector emulationVector : Word) (image : Byte) (ret : Word) : Prop :=
  (s.e = false → StoredBytes s t [(pushSlot s .page 0, s.pbr), (pushSlot s .page 1, hi ret),
      (pushSlot s .page 2, lo ret), (pushSlot s .page 3, s.p)] ∧ t.sp = pageSp s (-4) ∧
      t.pc = joinWord (t.readByte .vector (bank0 (nativeVector + 1#16))) (t.readByte .vector (bank0 nativeVector))) ∧
  (s.e = true → StoredBytes s t [(pushSlot s .page 0, hi ret), (pushSlot s .page 1, lo ret),
      (pushSlot s .page 2, image)] ∧ t.sp = pageSp s (-3) ∧
      t.pc = joinWord (t.readByte .vector (bank0 (emulationVector + 1#16)))
        (t.readByte .vector (bank0 emulationVector))) ∧
  t.flag .i = true ∧ t.flag .d = false ∧ FlagsKept s t [.i, .d] ∧ t.pbr = 0x00#8 ∧
  t = { s with sp := t.sp, mem := t.mem, pc := t.pc, pbr := t.pbr, p := t.p }

/-- `i` completes: one flag is written and no other; only P and PC change. -/
def WritesOneFlag (s : State) (i : Instr) (op : Byte) (f : Flag) (b : Bool) : Prop :=
  HasOpcode s i op 1 ∧ ∃ t, exec i s = .next t ∧ t = { s with p := t.p, pc := t.pc } ∧
    t.flag f = b ∧ FlagsKept s t [f] ∧ PastInstr s t 1

/-- `k` executions in a row of one instruction, none of which is refused. -/
def repeated (i : Instr) : Nat → State → Option State
  | 0, s => some s
  | k + 1, s =>
    match exec i s with
    | .next t => repeated i k t
    | .fault _ => none
    | .refused _ => none

/-- The pointer at an offset of a bank, low byte first; the high byte's offset wraps in the bank (R67, R142). -/
def wordAt (s : State) (bank : Byte) (o : Word) : Word :=
  joinWord (s.readByte .pointer (bankAddr bank (o + 1#16))) (s.readByte .pointer (bankAddr bank o))

/-- The next state of an instruction, if it answers one. -/
def after (i : Instr) (s : State) : Option State :=
  match exec i s with
  | .next t => some t
  | .fault _ => none
  | .refused _ => none

/-- Rule R325 on P, X, Y and S: emulation mode forces m, x and SH, and x = 1 clears XH and YH; every other flag is the one
of the byte written. -/
def ModeEnforced (before t : State) (written : Byte) (e : Bool) : Prop :=
  (∀ f : Flag, f ≠ .m → f ≠ .x → t.flag f = flagOf written f) ∧
  t.flag .m = (e || flagOf written .m) ∧ t.flag .x = (e || flagOf written .x) ∧
  t.x = (if t.flag .x then zext16 (lo before.x) else before.x) ∧
  t.y = (if t.flag .x then zext16 (lo before.y) else before.y) ∧
  t.sp = (if e then joinWord 0x01#8 (lo before.sp) else before.sp)

end Sys2Proof.Claims

open Sys2Proof Sys2Proof.Machine Sys2Proof.Claims

/-- Decoding the bytes of an instruction gives the instruction back. For every m and x, every well-formed instruction,
with every operand at every value its encoding admits, and any bytes after it: the decoder reads that instruction
from its encoded bytes and leaves the bytes after it. -/
def Obligations.DecodeOfEncode : Prop :=
  ∀ (m x : Bool) (i : Instr) (rest : List Byte), i.wellFormed m x = true →
    decode m x (encode m x i ++ rest) = .ok (i, rest)

/-- What the decoder reads encodes to the bytes it read, and four bytes always decode. For every m and x: whenever the
decoder reads an instruction, the instruction is well-formed and its encoding followed by the bytes left is what was
read; and any sequence of at least four bytes decodes. -/
def Obligations.EncodeOfDecode : Prop :=
  (∀ (m x : Bool) (bytes rest : List Byte) (i : Instr), decode m x bytes = .ok (i, rest) →
    i.wellFormed m x = true ∧ encode m x i ++ rest = bytes) ∧
  (∀ (m x : Bool) (bytes : List Byte), 4 ≤ bytes.length → ∃ i rest, decode m x bytes = .ok (i, rest))

/-- How many opcodes have each length, and which change it. Of the 256 opcode bytes, 50 have length 1, 115 have length 2
whatever m and x are, 12 have length 2 or 3 by m (eight of them) or x (four of them), 61 have length 3 and 18 have
length 4; every instruction has one of these lengths, fixed by its opcode, m and x. -/
def Obligations.OpcodesByLength : Prop :=
  let lengths := fun (op : Nat) (m x : Bool) =>
    (decodeBytes m x (BitVec.ofNat 8 op) 0x00#8 0x00#8 0x00#8).length m x
  let fixedAt := fun (n : Nat) => (List.range 256).countP fun op =>
    lengths op false false == n && lengths op false true == n && lengths op true false == n && lengths op true true == n
  fixedAt 1 = 50 ∧ fixedAt 2 = 115 ∧ fixedAt 3 = 61 ∧ fixedAt 4 = 18 ∧
  ((List.range 256).filter fun op => lengths op false true == 3 && lengths op true true == 2) =
    [0x09, 0x29, 0x49, 0x69, 0x89, 0xA9, 0xC9, 0xE9] ∧
  ((List.range 256).filter fun op => lengths op true false == 3 && lengths op true true == 2) =
    [0xA0, 0xA2, 0xC0, 0xE0] ∧
  ∀ (m x : Bool) (b0 b1 b2 b3 : Byte),
    (decodeBytes m x b0 b1 b2 b3).length m x = (decodeBytes m x b0 0x00#8 0x00#8 0x00#8).length m x

/-- Words written out from the spec decode to the instructions they stand for. The spec's own byte sequences decode as
it says: AD 34 12, A9 80 with m = 1, A9 00 EA with m = 0, AF 34 12 C2, A3 01, A2 34 12 with x = 0, 54 7F 7E
(destination bank first), 82 FD FF, 02 05. -/
def Obligations.SpecWordsDecode : Prop :=
  decode true true [0xAD#8, 0x34#8, 0x12#8] = .ok (.ldaAddr 0x1234#16, []) ∧
  decode true true [0xA9#8, 0x80#8] = .ok (.ldaConst 0x0080#16, []) ∧
  decode false true [0xA9#8, 0x00#8, 0xEA#8] = .ok (.ldaConst 0xEA00#16, []) ∧
  decode true true [0xAF#8, 0x34#8, 0x12#8, 0xC2#8] = .ok (.ldaLong 0xC21234#24, []) ∧
  decode true true [0xA3#8, 0x01#8] = .ok (.ldaSr 0x01#8, []) ∧
  decode true false [0xA2#8, 0x34#8, 0x12#8] = .ok (.ldxConst 0x1234#16, []) ∧
  decode true true [0x54#8, 0x7F#8, 0x7E#8] = .ok (.mvn 0x7E#8 0x7F#8, []) ∧
  decode true true [0x82#8, 0xFD#8, 0xFF#8] = .ok (.brl 0xFFFD#16, []) ∧
  decode true true [0x02#8, 0x05#8, 0x60#8] = .ok (.cop 0x05#8, [0x60#8])

/-- A step runs the instruction that the bytes at PBR:PC decode to. In a running machine with no NMI latched and nothing
asserted, let t be the state whose input sample is used up (inputs one shorter, drawCount one larger, nothing else
changed). When the four bytes that t reads at {PBR, PC + k mod 2^16} decode under the current m and x to an
instruction i, i is well-formed and the step is exec of i in t. RAM and ROM read in t as in s. -/
def Obligations.StepRunsDecodedInstruction : Prop :=
  ∀ (s : State) (i : Instr) (rest : List Byte), s.run = .running → s.nmiPending = false →
    s.inputs.headD Inputs.inactive = Inputs.inactive →
    let t : State := { s with inputs := s.inputs.tail, drawCount := s.drawCount + 1 }
    decode (s.flag .m) (s.flag .x)
      [t.readByte .fetch (bankAddr s.pbr s.pc), t.readByte .fetch (bankAddr s.pbr (s.pc + 1#16)),
        t.readByte .fetch (bankAddr s.pbr (s.pc + 2#16)), t.readByte .fetch (bankAddr s.pbr (s.pc + 3#16))] = .ok (i, rest) →
    i.wellFormed (s.flag .m) (s.flag .x) = true ∧ step s = exec i t ∧
      ∀ a : Addr, s.kindAt a ≠ .device → t.readByte .fetch a = s.readByte .fetch a

/-- An instruction placed at PBR:PC is what the very next step runs, at every m and x. The placing (withFetchWord) and
the reading of a table word (decodeTableWord) are the model's own, no rule of the spec (log 17, log 15). In every
state, for every number of nbits bits: under the state's own m and x the decoder reads a well-formed instruction
from its four lowest bytes (so a constant takes one byte or two as m or x says), the step of the state with that
number placed where the step fetches is exec of that instruction in the placed state with its input sample used up,
and with m = x = 1 it is the instruction that decodeTableWord reads. -/
def Obligations.PlacedInstructionRunsNext : Prop :=
  ∀ (s : State) (nbits w : Nat),
    let byte : Nat → Byte := fun k => BitVec.ofNat 8 (w % 2 ^ nbits / 256 ^ k)
    ∃ i rest, decode (s.flag .m) (s.flag .x) [byte 0, byte 1, byte 2, byte 3] = .ok (i, rest) ∧
      i.wellFormed (s.flag .m) (s.flag .x) = true ∧
      step (s.withFetchWord nbits w) = exec i (s.withFetchWord nbits w).beginStep ∧
      (s.flag .m = true → s.flag .x = true → decodeTableWord nbits w = some i)

/-- The state right after reset has the values the spec gives. State.reset has e = 1, m = x = 1, d = 0, i = 1, XH = YH =
$00, SH = $01, D = $0000, DBR = PBR = $00, PC the word at $00FFFC, run state running, nmi_pending 0. The registers
and flags the spec leaves unspecified are not mentioned. -/
def Obligations.ResetStateValues : Prop :=
  State.reset.e = true ∧ State.reset.flag .m = true ∧ State.reset.flag .x = true ∧ State.reset.flag .d = false ∧
  State.reset.flag .i = true ∧ hi State.reset.x = 0x00#8 ∧ hi State.reset.y = 0x00#8 ∧ hi State.reset.sp = 0x01#8 ∧
  State.reset.d = 0x0000#16 ∧ State.reset.dbr = 0x00#8 ∧ State.reset.pbr = 0x00#8 ∧
  State.reset.pc = joinWord (State.reset.readByte .vector 0x00FFFD#24) (State.reset.readByte .vector 0x00FFFC#24) ∧
  State.reset.run = .running ∧ State.reset.nmiPending = false

/-- A step at which RESET is asserted does the reset sequence and nothing else. Whatever the run state, when the sample
asserts RESET the step answers a state with e, m, x, i set, d clear, XH, YH, D, DBR, PBR zero, SH = $01, running, no
NMI latched, PC the word at $00FFFC of the same memory; n, v, z, c, C, XL, YL, SL, memory and platform are kept,
nothing is pushed, and the sample is used up. -/
def Obligations.ResetStepSequence : Prop :=
  ∀ s : State, (s.inputs.headD Inputs.inactive).reset = true →
    ∃ t, step s = .next t ∧ t.e = true ∧ t.flag .m = true ∧ t.flag .x = true ∧ t.flag .d = false ∧ t.flag .i = true ∧
      FlagsKept s t [.m, .x, .d, .i] ∧ t.x = zext16 (lo s.x) ∧ t.y = zext16 (lo s.y) ∧
      t.sp = joinWord 0x01#8 (lo s.sp) ∧ t.d = 0x0000#16 ∧ t.dbr = 0x00#8 ∧ t.pbr = 0x00#8 ∧ t.run = .running ∧
      t.nmiPending = false ∧ t.pc = joinWord (t.readByte .vector 0x00FFFD#24) (t.readByte .vector 0x00FFFC#24) ∧
      t.c = s.c ∧ t.mem = s.mem ∧ t.platform = s.platform ∧ t.inputs = s.inputs.tail ∧ t.drawCount = s.drawCount + 1

/-- STP stops the machine, and only RESET leaves that state. STP moves PC past itself, makes the run state stopped and
changes nothing else; a step of a stopped machine without RESET leaves every piece of the state as it is, whatever
NMI, IRQ and ABORT do (only the sample of the inputs is used up and the model's draw counter advances). -/
def Obligations.StopUntilReset : Prop :=
  (∀ s : State, HasOpcode s .stp 0xDB#8 1 ∧ exec .stp s = .next { s with pc := s.pc + 1#16, run := .stopped }) ∧
  (∀ s : State, s.run = .stopped → (s.inputs.headD Inputs.inactive).reset = false →
    step s = .next { s with inputs := s.inputs.tail, drawCount := s.drawCount + 1 })

/-- WAI waits; a masked IRQ ends the wait without a trap; otherwise nothing happens. WAI moves PC past itself, makes the
run state waiting and changes nothing else; a waiting machine with no RESET, ABORT or NMI goes on running without a
trap when IRQ is asserted and i = 1, and otherwise, with no IRQ, stays as it is. -/
def Obligations.WaitUntilInterrupt : Prop :=
  (∀ s : State, HasOpcode s .wai 0xCB#8 1 ∧ exec .wai s = .next { s with pc := s.pc + 1#16, run := .waiting }) ∧
  (∀ s : State, s.run = .waiting → s.nmiPending = false →
    s.inputs.headD Inputs.inactive = { Inputs.inactive with irq := true } → s.flag .i = true →
    step s = .next { s with inputs := s.inputs.tail, drawCount := s.drawCount + 1, run := .running }) ∧
  (∀ s : State, s.run = .waiting → s.nmiPending = false → s.inputs.headD Inputs.inactive = Inputs.inactive →
    step s = .next { s with inputs := s.inputs.tail, drawCount := s.drawCount + 1 })

/-- NMI and an unmasked IRQ enter their traps at the boundary; ABORT is refused. In a machine that is neither being
reset nor stopped: with ABORT asserted the step is refused; else with an NMI latched or an edge, the NMI trap is
entered from the current PC with the run state running and the latch cleared; else with IRQ asserted and i = 0, the
IRQ trap is entered from the current PC with the run state running. -/
def Obligations.InterruptsAreTaken : Prop :=
  ∀ (s : State) (i : Inputs), s.inputs.headD Inputs.inactive = i → i.reset = false → s.run ≠ .stopped →
    let ready : State := { s with inputs := s.inputs.tail, drawCount := s.drawCount + 1, run := .running, nmiPending := false }
    (i.abort = true → step s = .refused .abortAsserted) ∧
    (i.abort = false → (s.nmiPending || i.nmiEdge) = true →
      ∃ t, step s = .next t ∧
        TrapEntered ready t 0xFFEA#16 0xFFFA#16 ((s.p ||| 0x20#8) &&& 0xEF#8) s.pc) ∧
    (i.abort = false → (s.nmiPending || i.nmiEdge) = false → i.irq = true → s.flag .i = false →
      ∃ t, step s = .next t ∧
        TrapEntered ready t 0xFFEE#16 0xFFFE#16 ((s.p ||| 0x20#8) &&& 0xEF#8) s.pc)

/-- A masked IRQ does not stop the instruction. In a running machine with no RESET, ABORT or NMI, when IRQ is asserted
and i = 1 the step is the same as exec of the fetched instruction in the state whose sample is used up: i = 1 masks
IRQ. -/
def Obligations.MaskedIrqRunsInstruction : Prop :=
  ∀ s : State, s.run = .running → s.nmiPending = false →
    s.inputs.headD Inputs.inactive = { Inputs.inactive with irq := true } → s.flag .i = true →
    step s = exec (s.beginStep).fetchInstr { s with inputs := s.inputs.tail, drawCount := s.drawCount + 1 }

/-- BRK and COP enter their traps, in both modes. BRK (opcode $00) and COP ($02), two bytes each, enter a trap with the
return address PC + 2: native frame PBR, return address, P; emulation frame return address, P with bits $30 set; i
set, d cleared, PBR zero, PC from $FFE6 or $FFFE (BRK), $FFE4 or $FFF4 (COP); nothing else changes. -/
def Obligations.SoftwareTrapsEnter : Prop :=
  ∀ (s : State) (signature : Byte),
    (HasOpcode s (.brk signature) 0x00#8 2 ∧ ∃ t, exec (.brk signature) s = .next t ∧
      TrapEntered s t 0xFFE6#16 0xFFFE#16 (s.p ||| 0x30#8) (s.pc + 2#16)) ∧
    (HasOpcode s (.cop signature) 0x02#8 2 ∧ ∃ t, exec (.cop signature) s = .next t ∧
      TrapEntered s t 0xFFE4#16 0xFFF4#16 (s.p ||| 0x30#8) (s.pc + 2#16))

/-- RTI pulls P, PC and, in native mode, PBR. RTI (opcode $40) pulls P with rule R325 applied, then PC with no
adjustment, and in native mode PBR; S moves up by 4 (native) or 3 (emulation); e, C, D, DBR, memory and all else are
kept. -/
def Obligations.ReturnFromInterrupt : Prop :=
  ∀ s : State, (s.e = true → hi s.sp = 0x01#8) →
    HasOpcode s .rti 0x40#8 1 ∧ ∃ t, exec .rti s = .next t ∧
      t = { s with p := t.p, x := t.x, y := t.y, sp := t.sp, pc := t.pc, pbr := t.pbr } ∧
      ModeEnforced { s with sp := pageSp s (if s.e then 3 else 4) } t (s.readByte .stack (pullSlot s .page 1)) s.e ∧
      t.pc = joinWord (s.readByte .stack (pullSlot s .page 3)) (s.readByte .stack (pullSlot s .page 2)) ∧
      t.pbr = (if s.e then s.pbr else s.readByte .stack (pullSlot s .page 4))

/-- A return undoes the entry of a trap, but for PBR in emulation mode. From every state of a run whose four stack bytes
are RAM: returning right after entering a trap with return address ret gives the state back with PC = ret, the stack
bytes as the entry left them, and, in emulation mode only, PBR zero (it is not saved). -/
def Obligations.TrapThenReturnRestores : Prop :=
  ∀ (s : State) (cause : TrapCause) (ret : Word), s.Inv →
    (∀ k, k < 4 → s.kindAt (pushSlot s .page k) = .ram) →
    (s.takeTrap cause ret).returnFromTrap =
      { s with pc := ret, mem := (s.takeTrap cause ret).mem, pbr := if s.e then 0x00#8 else s.pbr }

/-- A byte written to RAM is read back, every other byte is kept, and the next fetch sees it. Writing a byte at an
address: if it is RAM a read there gives the byte; a read anywhere else, or of a location that is not RAM (a choice
of the model, log 4), gives what it gave before; and a fetch at that address sees the byte with nothing done in
between. Nothing but memory changes. -/
def Obligations.MemoryReadsLastWrite : Prop :=
  ∀ (s : State) (a : Addr) (v : Byte),
    s.writeByte a v = { s with mem := (s.writeByte a v).mem } ∧
    (s.kindAt a = .ram → ∀ use, (s.writeByte a v).readByte use a = v) ∧
    (∀ b : Addr, b ≠ a ∨ s.kindAt b ≠ .ram → ∀ use, (s.writeByte a v).readByte use b = s.readByte use b) ∧
    (∀ k : Nat, s.kindAt a = .ram → s.fetchAddr k = a → (s.writeByte a v).fetchByte k = v)

/-- Sixteen-bit accesses step over 24 bits, or over 16 bits inside bank 0. ReadOp and WriteOp at 8 and 16 bits: the low
byte is at the effective address; the high byte of a lin location is at the address plus 1 modulo 2^24, of a bank0
location at the offset plus 1 modulo 2^16 in bank 0; the kind of each form is bank0 for dp, dp,X, dp,Y and sr,S,
whose ea is in bank 0, and lin for the others. -/
def Obligations.MultiByteAccesses : Prop :=
  (∀ (s : State) (l : Loc), s.readOp l .w8 = s.readByte .data l.ea ∧
    (s.readOp l .w16).toNat = (s.readByte .data l.ea).toNat + 256 * (s.readByte .data l.second).toNat) ∧
  (∀ (s : State) (l : Loc) (w : Width) (v : BitVec w.bits),
    s.writeOp l w v = { s with mem := (s.writeOp l w v).mem } ∧ Stored s (s.writeOp l w v) l w v ∧
    s.writeBack l w v = { s with mem := (s.writeBack l w v).mem } ∧ Stored s (s.writeBack l w v) l w v) ∧
  (∀ ea : Addr, (Loc.second { ea := ea, kind := .lin }).toNat = (ea.toNat + 1) % 2 ^ 24) ∧
  (∀ ea : Addr, (Loc.second { ea := ea, kind := .bank0 }).toNat = (ea.toNat % 65536 + 1) % 65536) ∧
  (∀ (f : MemForm) (s : State), (f.loc s).kind = .bank0 ↔
    ((∃ o, f = .dp o) ∨ (∃ o, f = .dpX o) ∨ (∃ o, f = .dpY o) ∨ (∃ o, f = .sr o))) ∧
  (∀ (f : MemForm) (s : State), (f.loc s).kind = .bank0 → (f.loc s).ea.toNat < 65536)

/-- Two canonical memories that read alike are equal data, and writes keep the form. The canonical form of memory is the
model's own (log 1): writing any byte at any of the 2^24 addresses keeps it, and two memories in that form that read
the same byte at every address are the same list. -/
def Obligations.CanonicalMemoryIsExtensional : Prop :=
  (∀ (m : Memory) (a : Addr) (v : Byte), m.wf = true → (m.write a.toNat v).wf = true) ∧
  (∀ m n : Memory, m.wf = true → n.wf = true → (∀ a : Addr, m.read a.toNat = n.read a.toNat) → m = n)

/-- The effective addresses of dp, dp,X and dp,Y. dp is at (D + dp) mod 2^16 of bank 0; dp,X and dp,Y are at (D + dp +
index) mod 2^16, except in emulation mode with DL = $00, where the index wraps inside the 256-byte direct page. -/
def Obligations.DirectPageAddresses : Prop :=
  ∀ (s : State) (o : Byte),
    (MemForm.loc (.dp o) s).ea.toNat = (s.d.toNat + o.toNat) % 65536 ∧
    ((s.e = false ∨ s.d.toNat % 256 ≠ 0) →
      (MemForm.loc (.dpX o) s).ea.toNat = (s.d.toNat + o.toNat + s.x.toNat) % 65536 ∧
      (MemForm.loc (.dpY o) s).ea.toNat = (s.d.toNat + o.toNat + s.y.toNat) % 65536) ∧
    (s.e = true → s.d.toNat % 256 = 0 →
      (MemForm.loc (.dpX o) s).ea.toNat = s.d.toNat + (o.toNat + s.x.toNat) % 256 ∧
      (MemForm.loc (.dpY o) s).ea.toNat = s.d.toNat + (o.toNat + s.y.toNat) % 256)

/-- The effective addresses of the indirect forms. With byte(n) the byte of bank 0 at n mod 2^16: (dp), (dp,X), (dp),Y,
[dp], [dp],Y and (sr,S),Y read their pointers from bank 0, low byte first, add the bank DBR or the third byte, and
add Y over 24 bits. With e = 1 and DL = $00 (R126) the second byte of a pointer of (dp), (dp,X) and (dp),Y is read
inside the direct page instead, while the pointers of [dp] and [dp],Y do not wrap in the page even then. Where a
pointer of any of these five forms then begins at the last byte of the page, both are a choice of the model among
the values of EMU_CORNER_POLICY (log 8). -/
def Obligations.IndirectAddresses : Prop :=
  ∀ (s : State) (o : Byte),
    let byte := fun n : Nat => (s.readByte .pointer (BitVec.ofNat 24 (n % 65536))).toNat
    let word := fun n : Nat => byte n + 256 * byte (n + 1)
    let pageWord := fun n : Nat => byte (s.d.toNat + n % 256) + 256 * byte (s.d.toNat + (n + 1) % 256)
    let bank := 65536 * s.dbr.toNat
    ((s.e = false ∨ s.d.toNat % 256 ≠ 0) →
      (MemForm.loc (.indDp o) s).ea.toNat = bank + word (s.d.toNat + o.toNat) ∧
      (MemForm.loc (.indDpX o) s).ea.toNat = bank + word (s.d.toNat + o.toNat + s.x.toNat) ∧
      (MemForm.loc (.indDpY o) s).ea.toNat = (bank + word (s.d.toNat + o.toNat) + s.y.toNat) % 2 ^ 24) ∧
    (s.e = true → s.d.toNat % 256 = 0 →
      (MemForm.loc (.indDp o) s).ea.toNat = bank + pageWord o.toNat ∧
      (MemForm.loc (.indDpX o) s).ea.toNat = bank + pageWord (o.toNat + s.x.toNat) ∧
      (MemForm.loc (.indDpY o) s).ea.toNat = (bank + pageWord o.toNat + s.y.toNat) % 2 ^ 24) ∧
    (MemForm.loc (.longIndDp o) s).ea.toNat =
      word (s.d.toNat + o.toNat) + 65536 * byte (s.d.toNat + o.toNat + 2) ∧
    (MemForm.loc (.longIndDpY o) s).ea.toNat =
      (word (s.d.toNat + o.toNat) + 65536 * byte (s.d.toNat + o.toNat + 2) + s.y.toNat) % 2 ^ 24 ∧
    (MemForm.loc (.indSrY o) s).ea.toNat = (bank + word (s.sp.toNat + o.toNat) + s.y.toNat) % 2 ^ 24

/-- The effective addresses of addr, long and sr,S and their indexed forms. addr is in bank DBR, addr,X and addr,Y add
the index over 24 bits, long is the operand itself, long,X adds X over 24 bits, sr,S is at (S + sr) mod 2^16 of bank
0, in emulation mode too. -/
def Obligations.AbsoluteAndStackAddresses : Prop :=
  ∀ (s : State) (a : Word) (l : Addr) (o : Byte),
    (MemForm.loc (.addr a) s).ea.toNat = 65536 * s.dbr.toNat + a.toNat ∧
    (MemForm.loc (.addrX a) s).ea.toNat = (65536 * s.dbr.toNat + a.toNat + s.x.toNat) % 2 ^ 24 ∧
    (MemForm.loc (.addrY a) s).ea.toNat = (65536 * s.dbr.toNat + a.toNat + s.y.toNat) % 2 ^ 24 ∧
    (MemForm.loc (.long l) s).ea = l ∧
    (MemForm.loc (.longX l) s).ea.toNat = (l.toNat + s.x.toNat) % 2 ^ 24 ∧
    (MemForm.loc (.sr o) s).ea.toNat = (s.sp.toNat + o.toNat) % 65536

/-- LDA, every form. Every form of LDA completes in every state: the accumulator at the width of m holds the operand, B
is kept when m = 1, n and z show it, and nothing else changes but PC. That a form with a direct page pointer ((dp),
(dp,X), (dp),Y, [dp] or [dp],Y) completes in emulation mode with DL = $00 and the pointer at the last byte of the
page, and from which bytes, is a choice of the model (EMU_CORNER_POLICY, R126, log 8). -/
def Obligations.LoadAccumulator : Prop :=
  ∀ (s : State) (dp : Byte) (sr : Byte) (addr : Word) (const : Word) (long : Addr),
    PutsInAcc s (.ldaIndDpX dp) 0xA1#8 (.mem (.indDpX dp)) (fun _ v => v) ∧
    PutsInAcc s (.ldaSr sr) 0xA3#8 (.mem (.sr sr)) (fun _ v => v) ∧
    PutsInAcc s (.ldaDp dp) 0xA5#8 (.mem (.dp dp)) (fun _ v => v) ∧
    PutsInAcc s (.ldaLongIndDp dp) 0xA7#8 (.mem (.longIndDp dp)) (fun _ v => v) ∧
    PutsInAcc s (.ldaConst const) 0xA9#8 (.const const) (fun _ v => v) ∧
    PutsInAcc s (.ldaAddr addr) 0xAD#8 (.mem (.addr addr)) (fun _ v => v) ∧
    PutsInAcc s (.ldaLong long) 0xAF#8 (.mem (.long long)) (fun _ v => v) ∧
    PutsInAcc s (.ldaIndDpY dp) 0xB1#8 (.mem (.indDpY dp)) (fun _ v => v) ∧
    PutsInAcc s (.ldaIndDp dp) 0xB2#8 (.mem (.indDp dp)) (fun _ v => v) ∧
    PutsInAcc s (.ldaIndSrY sr) 0xB3#8 (.mem (.indSrY sr)) (fun _ v => v) ∧
    PutsInAcc s (.ldaDpX dp) 0xB5#8 (.mem (.dpX dp)) (fun _ v => v) ∧
    PutsInAcc s (.ldaLongIndDpY dp) 0xB7#8 (.mem (.longIndDpY dp)) (fun _ v => v) ∧
    PutsInAcc s (.ldaAddrY addr) 0xB9#8 (.mem (.addrY addr)) (fun _ v => v) ∧
    PutsInAcc s (.ldaAddrX addr) 0xBD#8 (.mem (.addrX addr)) (fun _ v => v) ∧
    PutsInAcc s (.ldaLongX long) 0xBF#8 (.mem (.longX long)) (fun _ v => v)

/-- LDX and LDY, every form. Every form of LDX and LDY completes in every state: X or Y holds the operand at the width
of x (its high byte zero when x = 1), n and z show it, and nothing else changes but PC. -/
def Obligations.LoadIndexRegisters : Prop :=
  ∀ (s : State) (dp : Byte) (addr : Word) (const : Word),
    PutsInX s (.ldxConst const) 0xA2#8 ((Operand.const const).length s.wXY) ((Operand.const const).read s s.wXY) ∧
    PutsInX s (.ldxDp dp) 0xA6#8 ((Operand.mem (.dp dp)).length s.wXY) ((Operand.mem (.dp dp)).read s s.wXY) ∧
    PutsInX s (.ldxAddr addr) 0xAE#8 ((Operand.mem (.addr addr)).length s.wXY) ((Operand.mem (.addr addr)).read s s.wXY) ∧
    PutsInX s (.ldxDpY dp) 0xB6#8 ((Operand.mem (.dpY dp)).length s.wXY) ((Operand.mem (.dpY dp)).read s s.wXY) ∧
    PutsInX s (.ldxAddrY addr) 0xBE#8 ((Operand.mem (.addrY addr)).length s.wXY) ((Operand.mem (.addrY addr)).read s s.wXY) ∧
    PutsInY s (.ldyConst const) 0xA0#8 ((Operand.const const).length s.wXY) ((Operand.const const).read s s.wXY) ∧
    PutsInY s (.ldyDp dp) 0xA4#8 ((Operand.mem (.dp dp)).length s.wXY) ((Operand.mem (.dp dp)).read s s.wXY) ∧
    PutsInY s (.ldyAddr addr) 0xAC#8 ((Operand.mem (.addr addr)).length s.wXY) ((Operand.mem (.addr addr)).read s s.wXY) ∧
    PutsInY s (.ldyDpX dp) 0xB4#8 ((Operand.mem (.dpX dp)).length s.wXY) ((Operand.mem (.dpX dp)).read s s.wXY) ∧
    PutsInY s (.ldyAddrX addr) 0xBC#8 ((Operand.mem (.addrX addr)).length s.wXY) ((Operand.mem (.addrX addr)).read s s.wXY)

/-- STA, STX, STY and STZ, every form. Every store completes in every state: the register at its width, or zero at the
width of m, is stored at the location of the form; every byte outside it is kept; no register and no flag changes
but PC. That a form with a direct page pointer ((dp), (dp,X), (dp),Y, [dp] or [dp],Y) completes in emulation mode
with DL = $00 and the pointer at the last byte of the page, and from which bytes, is a choice of the model
(EMU_CORNER_POLICY, R126, log 8). -/
def Obligations.StoresWriteTheirBytes : Prop :=
  ∀ (s : State) (dp : Byte) (sr : Byte) (addr : Word) (long : Addr),
    Stores s (.staIndDpX dp) 0x81#8 (.indDpX dp) s.wA (s.acc s.wA) ∧
    Stores s (.staSr sr) 0x83#8 (.sr sr) s.wA (s.acc s.wA) ∧
    Stores s (.staDp dp) 0x85#8 (.dp dp) s.wA (s.acc s.wA) ∧
    Stores s (.staLongIndDp dp) 0x87#8 (.longIndDp dp) s.wA (s.acc s.wA) ∧
    Stores s (.staAddr addr) 0x8D#8 (.addr addr) s.wA (s.acc s.wA) ∧
    Stores s (.staLong long) 0x8F#8 (.long long) s.wA (s.acc s.wA) ∧
    Stores s (.staIndDpY dp) 0x91#8 (.indDpY dp) s.wA (s.acc s.wA) ∧
    Stores s (.staIndDp dp) 0x92#8 (.indDp dp) s.wA (s.acc s.wA) ∧
    Stores s (.staIndSrY sr) 0x93#8 (.indSrY sr) s.wA (s.acc s.wA) ∧
    Stores s (.staDpX dp) 0x95#8 (.dpX dp) s.wA (s.acc s.wA) ∧
    Stores s (.staLongIndDpY dp) 0x97#8 (.longIndDpY dp) s.wA (s.acc s.wA) ∧
    Stores s (.staAddrY addr) 0x99#8 (.addrY addr) s.wA (s.acc s.wA) ∧
    Stores s (.staAddrX addr) 0x9D#8 (.addrX addr) s.wA (s.acc s.wA) ∧
    Stores s (.staLongX long) 0x9F#8 (.longX long) s.wA (s.acc s.wA) ∧
    Stores s (.stxDp dp) 0x86#8 (.dp dp) s.wXY (s.regX s.wXY) ∧
    Stores s (.stxAddr addr) 0x8E#8 (.addr addr) s.wXY (s.regX s.wXY) ∧
    Stores s (.stxDpY dp) 0x96#8 (.dpY dp) s.wXY (s.regX s.wXY) ∧
    Stores s (.styDp dp) 0x84#8 (.dp dp) s.wXY (s.regY s.wXY) ∧
    Stores s (.styAddr addr) 0x8C#8 (.addr addr) s.wXY (s.regY s.wXY) ∧
    Stores s (.styDpX dp) 0x94#8 (.dpX dp) s.wXY (s.regY s.wXY) ∧
    Stores s (.stzDp dp) 0x64#8 (.dp dp) s.wA 0#s.wA.bits ∧
    Stores s (.stzDpX dp) 0x74#8 (.dpX dp) s.wA 0#s.wA.bits ∧
    Stores s (.stzAddr addr) 0x9C#8 (.addr addr) s.wA 0#s.wA.bits ∧
    Stores s (.stzAddrX addr) 0x9E#8 (.addrX addr) s.wA 0#s.wA.bits

/-- TRB and TSB, both forms. TRB and TSB complete in every state: z says that the old memory value and the accumulator
share no set bit, the accumulator's bits are reset or set in memory, the accumulator and every other flag and byte
are kept. -/
def Obligations.TestAndChangeBits : Prop :=
  ∀ (s : State) (dp : Byte) (addr : Word),
    TestsAndStores s (.trbDp dp) 0x14#8 (.dp dp) (s.readOp (MemForm.loc (.dp dp) s) s.wA &&& ~~~(s.acc s.wA)) ∧
    TestsAndStores s (.trbAddr addr) 0x1C#8 (.addr addr) (s.readOp (MemForm.loc (.addr addr) s) s.wA &&& ~~~(s.acc s.wA)) ∧
    TestsAndStores s (.tsbDp dp) 0x04#8 (.dp dp) (s.readOp (MemForm.loc (.dp dp) s) s.wA ||| s.acc s.wA) ∧
    TestsAndStores s (.tsbAddr addr) 0x0C#8 (.addr addr) (s.readOp (MemForm.loc (.addr addr) s) s.wA ||| s.acc s.wA)

/-- ADC with d = 0, every form. With d = 0 every form of ADC completes: the result is acc + mv + c modulo 2^w, c the
carry out, v the signed overflow by the signs, n and z of the result; B kept when m = 1, nothing else changes but
PC. That a form with a direct page pointer ((dp), (dp,X), (dp),Y, [dp] or [dp],Y) completes in emulation mode with
DL = $00 and the pointer at the last byte of the page, and from which bytes, is a choice of the model
(EMU_CORNER_POLICY, R126, log 8). -/
def Obligations.AddWithCarryBinary : Prop :=
  ∀ (s : State) (dp : Byte) (sr : Byte) (addr : Word) (const : Word) (long : Addr), s.flag .d = false →
    (Sums s (.adcIndDpX dp) 0x61#8 (.mem (.indDpX dp)) BinarySum) ∧
    (Sums s (.adcSr sr) 0x63#8 (.mem (.sr sr)) BinarySum) ∧
    (Sums s (.adcDp dp) 0x65#8 (.mem (.dp dp)) BinarySum) ∧
    (Sums s (.adcLongIndDp dp) 0x67#8 (.mem (.longIndDp dp)) BinarySum) ∧
    (Sums s (.adcConst const) 0x69#8 (.const const) BinarySum) ∧
    (Sums s (.adcAddr addr) 0x6D#8 (.mem (.addr addr)) BinarySum) ∧
    (Sums s (.adcLong long) 0x6F#8 (.mem (.long long)) BinarySum) ∧
    (Sums s (.adcIndDpY dp) 0x71#8 (.mem (.indDpY dp)) BinarySum) ∧
    (Sums s (.adcIndDp dp) 0x72#8 (.mem (.indDp dp)) BinarySum) ∧
    (Sums s (.adcIndSrY sr) 0x73#8 (.mem (.indSrY sr)) BinarySum) ∧
    (Sums s (.adcDpX dp) 0x75#8 (.mem (.dpX dp)) BinarySum) ∧
    (Sums s (.adcLongIndDpY dp) 0x77#8 (.mem (.longIndDpY dp)) BinarySum) ∧
    (Sums s (.adcAddrY addr) 0x79#8 (.mem (.addrY addr)) BinarySum) ∧
    (Sums s (.adcAddrX addr) 0x7D#8 (.mem (.addrX addr)) BinarySum) ∧
    (Sums s (.adcLongX long) 0x7F#8 (.mem (.longX long)) BinarySum)

/-- SBC with d = 0, every form. With d = 0 every form of SBC completes: the result is acc - mv - (1 - c) modulo 2^w, c =
1 when there is no borrow, v by the signs, n and z of the result; B kept when m = 1, nothing else changes but PC.
That a form with a direct page pointer ((dp), (dp,X), (dp),Y, [dp] or [dp],Y) completes in emulation mode with DL =
$00 and the pointer at the last byte of the page, and from which bytes, is a choice of the model (EMU_CORNER_POLICY,
R126, log 8). -/
def Obligations.SubtractWithBorrowBinary : Prop :=
  ∀ (s : State) (dp : Byte) (sr : Byte) (addr : Word) (const : Word) (long : Addr), s.flag .d = false →
    (Sums s (.sbcIndDpX dp) 0xE1#8 (.mem (.indDpX dp)) BinaryDifference) ∧
    (Sums s (.sbcSr sr) 0xE3#8 (.mem (.sr sr)) BinaryDifference) ∧
    (Sums s (.sbcDp dp) 0xE5#8 (.mem (.dp dp)) BinaryDifference) ∧
    (Sums s (.sbcLongIndDp dp) 0xE7#8 (.mem (.longIndDp dp)) BinaryDifference) ∧
    (Sums s (.sbcConst const) 0xE9#8 (.const const) BinaryDifference) ∧
    (Sums s (.sbcAddr addr) 0xED#8 (.mem (.addr addr)) BinaryDifference) ∧
    (Sums s (.sbcLong long) 0xEF#8 (.mem (.long long)) BinaryDifference) ∧
    (Sums s (.sbcIndDpY dp) 0xF1#8 (.mem (.indDpY dp)) BinaryDifference) ∧
    (Sums s (.sbcIndDp dp) 0xF2#8 (.mem (.indDp dp)) BinaryDifference) ∧
    (Sums s (.sbcIndSrY sr) 0xF3#8 (.mem (.indSrY sr)) BinaryDifference) ∧
    (Sums s (.sbcDpX dp) 0xF5#8 (.mem (.dpX dp)) BinaryDifference) ∧
    (Sums s (.sbcLongIndDpY dp) 0xF7#8 (.mem (.longIndDpY dp)) BinaryDifference) ∧
    (Sums s (.sbcAddrY addr) 0xF9#8 (.mem (.addrY addr)) BinaryDifference) ∧
    (Sums s (.sbcAddrX addr) 0xFD#8 (.mem (.addrX addr)) BinaryDifference) ∧
    (Sums s (.sbcLongX long) 0xFF#8 (.mem (.longX long)) BinaryDifference)

/-- v of a binary ADC or SBC, every form, is two's-complement overflow. With d = 0, v after every form of ADC and SBC is
set exactly when the two's-complement sum or difference of the accumulator, the operand of the form and the carry
does not fit the width, so that the result as a signed number differs from it; n and z show the result, and nothing
else changes but C, c and PC. That a form with a direct page pointer ((dp), (dp,X), (dp),Y, [dp] or [dp],Y)
completes in emulation mode with DL = $00 and the pointer at the last byte of the page, and from which bytes, is a
choice of the model (EMU_CORNER_POLICY, R126, log 8). -/
def Obligations.OverflowIsSigned : Prop :=
  ∀ (s : State) (dp : Byte) (sr : Byte) (addr : Word) (const : Word) (long : Addr), s.flag .d = false →
    (Sums s (.adcIndDpX dp) 0x61#8 (.mem (.indDpX dp)) SignedSumOverflow) ∧
    (Sums s (.adcSr sr) 0x63#8 (.mem (.sr sr)) SignedSumOverflow) ∧
    (Sums s (.adcDp dp) 0x65#8 (.mem (.dp dp)) SignedSumOverflow) ∧
    (Sums s (.adcLongIndDp dp) 0x67#8 (.mem (.longIndDp dp)) SignedSumOverflow) ∧
    (Sums s (.adcConst const) 0x69#8 (.const const) SignedSumOverflow) ∧
    (Sums s (.adcAddr addr) 0x6D#8 (.mem (.addr addr)) SignedSumOverflow) ∧
    (Sums s (.adcLong long) 0x6F#8 (.mem (.long long)) SignedSumOverflow) ∧
    (Sums s (.adcIndDpY dp) 0x71#8 (.mem (.indDpY dp)) SignedSumOverflow) ∧
    (Sums s (.adcIndDp dp) 0x72#8 (.mem (.indDp dp)) SignedSumOverflow) ∧
    (Sums s (.adcIndSrY sr) 0x73#8 (.mem (.indSrY sr)) SignedSumOverflow) ∧
    (Sums s (.adcDpX dp) 0x75#8 (.mem (.dpX dp)) SignedSumOverflow) ∧
    (Sums s (.adcLongIndDpY dp) 0x77#8 (.mem (.longIndDpY dp)) SignedSumOverflow) ∧
    (Sums s (.adcAddrY addr) 0x79#8 (.mem (.addrY addr)) SignedSumOverflow) ∧
    (Sums s (.adcAddrX addr) 0x7D#8 (.mem (.addrX addr)) SignedSumOverflow) ∧
    (Sums s (.adcLongX long) 0x7F#8 (.mem (.longX long)) SignedSumOverflow) ∧
    (Sums s (.sbcIndDpX dp) 0xE1#8 (.mem (.indDpX dp)) SignedDifferenceOverflow) ∧
    (Sums s (.sbcSr sr) 0xE3#8 (.mem (.sr sr)) SignedDifferenceOverflow) ∧
    (Sums s (.sbcDp dp) 0xE5#8 (.mem (.dp dp)) SignedDifferenceOverflow) ∧
    (Sums s (.sbcLongIndDp dp) 0xE7#8 (.mem (.longIndDp dp)) SignedDifferenceOverflow) ∧
    (Sums s (.sbcConst const) 0xE9#8 (.const const) SignedDifferenceOverflow) ∧
    (Sums s (.sbcAddr addr) 0xED#8 (.mem (.addr addr)) SignedDifferenceOverflow) ∧
    (Sums s (.sbcLong long) 0xEF#8 (.mem (.long long)) SignedDifferenceOverflow) ∧
    (Sums s (.sbcIndDpY dp) 0xF1#8 (.mem (.indDpY dp)) SignedDifferenceOverflow) ∧
    (Sums s (.sbcIndDp dp) 0xF2#8 (.mem (.indDp dp)) SignedDifferenceOverflow) ∧
    (Sums s (.sbcIndSrY sr) 0xF3#8 (.mem (.indSrY sr)) SignedDifferenceOverflow) ∧
    (Sums s (.sbcDpX dp) 0xF5#8 (.mem (.dpX dp)) SignedDifferenceOverflow) ∧
    (Sums s (.sbcLongIndDpY dp) 0xF7#8 (.mem (.longIndDpY dp)) SignedDifferenceOverflow) ∧
    (Sums s (.sbcAddrY addr) 0xF9#8 (.mem (.addrY addr)) SignedDifferenceOverflow) ∧
    (Sums s (.sbcAddrX addr) 0xFD#8 (.mem (.addrX addr)) SignedDifferenceOverflow) ∧
    (Sums s (.sbcLongX long) 0xFF#8 (.mem (.longX long)) SignedDifferenceOverflow)

/-- ADC and SBC with d = 1 add and subtract decimal numbers. With d = 1 and all digits 0 to 9, every form of ADC and SBC
completes: the result has digits 0 to 9 and stands for the decimal sum or difference, with c the decimal carry or
inverted borrow; n and z show the result; v is open; nothing else changes but PC. That a form with a direct page
pointer ((dp), (dp,X), (dp),Y, [dp] or [dp],Y) completes in emulation mode with DL = $00 and the pointer at the last
byte of the page, and from which bytes, is a choice of the model (EMU_CORNER_POLICY, R126, log 8). -/
def Obligations.DecimalArithmetic : Prop :=
  ∀ (s : State) (dp : Byte) (sr : Byte) (addr : Word) (const : Word) (long : Addr),
    (DecimalOperands s (.mem (.indDpX dp)) → Sums s (.adcIndDpX dp) 0x61#8 (.mem (.indDpX dp)) DecimalSum) ∧
    (DecimalOperands s (.mem (.sr sr)) → Sums s (.adcSr sr) 0x63#8 (.mem (.sr sr)) DecimalSum) ∧
    (DecimalOperands s (.mem (.dp dp)) → Sums s (.adcDp dp) 0x65#8 (.mem (.dp dp)) DecimalSum) ∧
    (DecimalOperands s (.mem (.longIndDp dp)) → Sums s (.adcLongIndDp dp) 0x67#8 (.mem (.longIndDp dp)) DecimalSum) ∧
    (DecimalOperands s (.const const) → Sums s (.adcConst const) 0x69#8 (.const const) DecimalSum) ∧
    (DecimalOperands s (.mem (.addr addr)) → Sums s (.adcAddr addr) 0x6D#8 (.mem (.addr addr)) DecimalSum) ∧
    (DecimalOperands s (.mem (.long long)) → Sums s (.adcLong long) 0x6F#8 (.mem (.long long)) DecimalSum) ∧
    (DecimalOperands s (.mem (.indDpY dp)) → Sums s (.adcIndDpY dp) 0x71#8 (.mem (.indDpY dp)) DecimalSum) ∧
    (DecimalOperands s (.mem (.indDp dp)) → Sums s (.adcIndDp dp) 0x72#8 (.mem (.indDp dp)) DecimalSum) ∧
    (DecimalOperands s (.mem (.indSrY sr)) → Sums s (.adcIndSrY sr) 0x73#8 (.mem (.indSrY sr)) DecimalSum) ∧
    (DecimalOperands s (.mem (.dpX dp)) → Sums s (.adcDpX dp) 0x75#8 (.mem (.dpX dp)) DecimalSum) ∧
    (DecimalOperands s (.mem (.longIndDpY dp)) → Sums s (.adcLongIndDpY dp) 0x77#8 (.mem (.longIndDpY dp)) DecimalSum) ∧
    (DecimalOperands s (.mem (.addrY addr)) → Sums s (.adcAddrY addr) 0x79#8 (.mem (.addrY addr)) DecimalSum) ∧
    (DecimalOperands s (.mem (.addrX addr)) → Sums s (.adcAddrX addr) 0x7D#8 (.mem (.addrX addr)) DecimalSum) ∧
    (DecimalOperands s (.mem (.longX long)) → Sums s (.adcLongX long) 0x7F#8 (.mem (.longX long)) DecimalSum) ∧
    (DecimalOperands s (.mem (.indDpX dp)) → Sums s (.sbcIndDpX dp) 0xE1#8 (.mem (.indDpX dp)) DecimalDifference) ∧
    (DecimalOperands s (.mem (.sr sr)) → Sums s (.sbcSr sr) 0xE3#8 (.mem (.sr sr)) DecimalDifference) ∧
    (DecimalOperands s (.mem (.dp dp)) → Sums s (.sbcDp dp) 0xE5#8 (.mem (.dp dp)) DecimalDifference) ∧
    (DecimalOperands s (.mem (.longIndDp dp)) → Sums s (.sbcLongIndDp dp) 0xE7#8 (.mem (.longIndDp dp)) DecimalDifference) ∧
    (DecimalOperands s (.const const) → Sums s (.sbcConst const) 0xE9#8 (.const const) DecimalDifference) ∧
    (DecimalOperands s (.mem (.addr addr)) → Sums s (.sbcAddr addr) 0xED#8 (.mem (.addr addr)) DecimalDifference) ∧
    (DecimalOperands s (.mem (.long long)) → Sums s (.sbcLong long) 0xEF#8 (.mem (.long long)) DecimalDifference) ∧
    (DecimalOperands s (.mem (.indDpY dp)) → Sums s (.sbcIndDpY dp) 0xF1#8 (.mem (.indDpY dp)) DecimalDifference) ∧
    (DecimalOperands s (.mem (.indDp dp)) → Sums s (.sbcIndDp dp) 0xF2#8 (.mem (.indDp dp)) DecimalDifference) ∧
    (DecimalOperands s (.mem (.indSrY sr)) → Sums s (.sbcIndSrY sr) 0xF3#8 (.mem (.indSrY sr)) DecimalDifference) ∧
    (DecimalOperands s (.mem (.dpX dp)) → Sums s (.sbcDpX dp) 0xF5#8 (.mem (.dpX dp)) DecimalDifference) ∧
    (DecimalOperands s (.mem (.longIndDpY dp)) → Sums s (.sbcLongIndDpY dp) 0xF7#8 (.mem (.longIndDpY dp)) DecimalDifference) ∧
    (DecimalOperands s (.mem (.addrY addr)) → Sums s (.sbcAddrY addr) 0xF9#8 (.mem (.addrY addr)) DecimalDifference) ∧
    (DecimalOperands s (.mem (.addrX addr)) → Sums s (.sbcAddrX addr) 0xFD#8 (.mem (.addrX addr)) DecimalDifference) ∧
    (DecimalOperands s (.mem (.longX long)) → Sums s (.sbcLongX long) 0xFF#8 (.mem (.longX long)) DecimalDifference)

/-- ADC and SBC complete on every operand and keep what they do not write. In every state, with d = 1 and digits above 9
too, every form of ADC and SBC completes and changes only the accumulator (B kept when m = 1), n, v, z, c and PC.
The drawn values themselves are not mentioned (log 9). That a form with a direct page pointer ((dp), (dp,X), (dp),Y,
[dp] or [dp],Y) completes in emulation mode with DL = $00 and the pointer at the last byte of the page, and from
which bytes, is a choice of the model (EMU_CORNER_POLICY, R126, log 8). -/
def Obligations.SumsAlwaysComplete : Prop :=
  ∀ (s : State) (dp : Byte) (sr : Byte) (addr : Word) (const : Word) (long : Addr),
    SumsSomehow s (.adcIndDpX dp) (.mem (.indDpX dp)) ∧
    SumsSomehow s (.adcSr sr) (.mem (.sr sr)) ∧
    SumsSomehow s (.adcDp dp) (.mem (.dp dp)) ∧
    SumsSomehow s (.adcLongIndDp dp) (.mem (.longIndDp dp)) ∧
    SumsSomehow s (.adcConst const) (.const const) ∧
    SumsSomehow s (.adcAddr addr) (.mem (.addr addr)) ∧
    SumsSomehow s (.adcLong long) (.mem (.long long)) ∧
    SumsSomehow s (.adcIndDpY dp) (.mem (.indDpY dp)) ∧
    SumsSomehow s (.adcIndDp dp) (.mem (.indDp dp)) ∧
    SumsSomehow s (.adcIndSrY sr) (.mem (.indSrY sr)) ∧
    SumsSomehow s (.adcDpX dp) (.mem (.dpX dp)) ∧
    SumsSomehow s (.adcLongIndDpY dp) (.mem (.longIndDpY dp)) ∧
    SumsSomehow s (.adcAddrY addr) (.mem (.addrY addr)) ∧
    SumsSomehow s (.adcAddrX addr) (.mem (.addrX addr)) ∧
    SumsSomehow s (.adcLongX long) (.mem (.longX long)) ∧
    SumsSomehow s (.sbcIndDpX dp) (.mem (.indDpX dp)) ∧
    SumsSomehow s (.sbcSr sr) (.mem (.sr sr)) ∧
    SumsSomehow s (.sbcDp dp) (.mem (.dp dp)) ∧
    SumsSomehow s (.sbcLongIndDp dp) (.mem (.longIndDp dp)) ∧
    SumsSomehow s (.sbcConst const) (.const const) ∧
    SumsSomehow s (.sbcAddr addr) (.mem (.addr addr)) ∧
    SumsSomehow s (.sbcLong long) (.mem (.long long)) ∧
    SumsSomehow s (.sbcIndDpY dp) (.mem (.indDpY dp)) ∧
    SumsSomehow s (.sbcIndDp dp) (.mem (.indDp dp)) ∧
    SumsSomehow s (.sbcIndSrY sr) (.mem (.indSrY sr)) ∧
    SumsSomehow s (.sbcDpX dp) (.mem (.dpX dp)) ∧
    SumsSomehow s (.sbcLongIndDpY dp) (.mem (.longIndDpY dp)) ∧
    SumsSomehow s (.sbcAddrY addr) (.mem (.addrY addr)) ∧
    SumsSomehow s (.sbcAddrX addr) (.mem (.addrX addr)) ∧
    SumsSomehow s (.sbcLongX long) (.mem (.longX long))

/-- INC and DEC of the accumulator and of memory. Every form of INC and DEC completes in every state: the operand plus
or minus one modulo 2^w goes back where it came from, n and z show it, c, v and every other flag are kept, and
nothing else changes but PC. -/
def Obligations.IncrementAndDecrement : Prop :=
  ∀ (s : State) (dp : Byte) (addr : Word),
    Modifies s .incAcc 0x1A#8 .acc [.n, .z] (fun w t r _ _ => r = (t + 1) % 2 ^ w.bits) ∧
    Modifies s (.incDp dp) 0xE6#8 (.mem (.dp dp)) [.n, .z] (fun w t r _ _ => r = (t + 1) % 2 ^ w.bits) ∧
    Modifies s (.incAddr addr) 0xEE#8 (.mem (.addr addr)) [.n, .z] (fun w t r _ _ => r = (t + 1) % 2 ^ w.bits) ∧
    Modifies s (.incDpX dp) 0xF6#8 (.mem (.dpX dp)) [.n, .z] (fun w t r _ _ => r = (t + 1) % 2 ^ w.bits) ∧
    Modifies s (.incAddrX addr) 0xFE#8 (.mem (.addrX addr)) [.n, .z] (fun w t r _ _ => r = (t + 1) % 2 ^ w.bits) ∧
    Modifies s .decAcc 0x3A#8 .acc [.n, .z] (fun w t r _ _ => r = (t + 2 ^ w.bits - 1) % 2 ^ w.bits) ∧
    Modifies s (.decDp dp) 0xC6#8 (.mem (.dp dp)) [.n, .z] (fun w t r _ _ => r = (t + 2 ^ w.bits - 1) % 2 ^ w.bits) ∧
    Modifies s (.decAddr addr) 0xCE#8 (.mem (.addr addr)) [.n, .z] (fun w t r _ _ => r = (t + 2 ^ w.bits - 1) % 2 ^ w.bits) ∧
    Modifies s (.decDpX dp) 0xD6#8 (.mem (.dpX dp)) [.n, .z] (fun w t r _ _ => r = (t + 2 ^ w.bits - 1) % 2 ^ w.bits) ∧
    Modifies s (.decAddrX addr) 0xDE#8 (.mem (.addrX addr)) [.n, .z] (fun w t r _ _ => r = (t + 2 ^ w.bits - 1) % 2 ^ w.bits)

/-- INX, INY, DEX and DEY. INX, INY, DEX and DEY complete in every state: X or Y at the width of x plus or minus one
modulo 2^w, high byte zero when x = 1, n and z show it; nothing else changes but PC. -/
def Obligations.IndexIncrementAndDecrement : Prop :=
  ∀ s : State,
    PutsInX s .inx 0xE8#8 1 (s.regX s.wXY + 1#s.wXY.bits) ∧ PutsInY s .iny 0xC8#8 1 (s.regY s.wXY + 1#s.wXY.bits) ∧
    PutsInX s .dex 0xCA#8 1 (s.regX s.wXY - 1#s.wXY.bits) ∧ PutsInY s .dey 0x88#8 1 (s.regY s.wXY - 1#s.wXY.bits)

/-- AND, ORA and EOR, every form. Every form of AND, ORA and EOR completes in every state: the accumulator at the width
of m holds the bitwise result, B is kept when m = 1, n and z show it, v, c and every other flag are kept; nothing
else changes but PC. That a form with a direct page pointer ((dp), (dp,X), (dp),Y, [dp] or [dp],Y) completes in
emulation mode with DL = $00 and the pointer at the last byte of the page, and from which bytes, is a choice of the
model (EMU_CORNER_POLICY, R126, log 8). -/
def Obligations.BitwiseLogic : Prop :=
  ∀ (s : State) (dp : Byte) (sr : Byte) (addr : Word) (const : Word) (long : Addr),
    PutsInAcc s (.andIndDpX dp) 0x21#8 (.mem (.indDpX dp)) (fun w v => s.acc w &&& v) ∧
    PutsInAcc s (.andSr sr) 0x23#8 (.mem (.sr sr)) (fun w v => s.acc w &&& v) ∧
    PutsInAcc s (.andDp dp) 0x25#8 (.mem (.dp dp)) (fun w v => s.acc w &&& v) ∧
    PutsInAcc s (.andLongIndDp dp) 0x27#8 (.mem (.longIndDp dp)) (fun w v => s.acc w &&& v) ∧
    PutsInAcc s (.andConst const) 0x29#8 (.const const) (fun w v => s.acc w &&& v) ∧
    PutsInAcc s (.andAddr addr) 0x2D#8 (.mem (.addr addr)) (fun w v => s.acc w &&& v) ∧
    PutsInAcc s (.andLong long) 0x2F#8 (.mem (.long long)) (fun w v => s.acc w &&& v) ∧
    PutsInAcc s (.andIndDpY dp) 0x31#8 (.mem (.indDpY dp)) (fun w v => s.acc w &&& v) ∧
    PutsInAcc s (.andIndDp dp) 0x32#8 (.mem (.indDp dp)) (fun w v => s.acc w &&& v) ∧
    PutsInAcc s (.andIndSrY sr) 0x33#8 (.mem (.indSrY sr)) (fun w v => s.acc w &&& v) ∧
    PutsInAcc s (.andDpX dp) 0x35#8 (.mem (.dpX dp)) (fun w v => s.acc w &&& v) ∧
    PutsInAcc s (.andLongIndDpY dp) 0x37#8 (.mem (.longIndDpY dp)) (fun w v => s.acc w &&& v) ∧
    PutsInAcc s (.andAddrY addr) 0x39#8 (.mem (.addrY addr)) (fun w v => s.acc w &&& v) ∧
    PutsInAcc s (.andAddrX addr) 0x3D#8 (.mem (.addrX addr)) (fun w v => s.acc w &&& v) ∧
    PutsInAcc s (.andLongX long) 0x3F#8 (.mem (.longX long)) (fun w v => s.acc w &&& v) ∧
    PutsInAcc s (.oraIndDpX dp) 0x01#8 (.mem (.indDpX dp)) (fun w v => s.acc w ||| v) ∧
    PutsInAcc s (.oraSr sr) 0x03#8 (.mem (.sr sr)) (fun w v => s.acc w ||| v) ∧
    PutsInAcc s (.oraDp dp) 0x05#8 (.mem (.dp dp)) (fun w v => s.acc w ||| v) ∧
    PutsInAcc s (.oraLongIndDp dp) 0x07#8 (.mem (.longIndDp dp)) (fun w v => s.acc w ||| v) ∧
    PutsInAcc s (.oraConst const) 0x09#8 (.const const) (fun w v => s.acc w ||| v) ∧
    PutsInAcc s (.oraAddr addr) 0x0D#8 (.mem (.addr addr)) (fun w v => s.acc w ||| v) ∧
    PutsInAcc s (.oraLong long) 0x0F#8 (.mem (.long long)) (fun w v => s.acc w ||| v) ∧
    PutsInAcc s (.oraIndDpY dp) 0x11#8 (.mem (.indDpY dp)) (fun w v => s.acc w ||| v) ∧
    PutsInAcc s (.oraIndDp dp) 0x12#8 (.mem (.indDp dp)) (fun w v => s.acc w ||| v) ∧
    PutsInAcc s (.oraIndSrY sr) 0x13#8 (.mem (.indSrY sr)) (fun w v => s.acc w ||| v) ∧
    PutsInAcc s (.oraDpX dp) 0x15#8 (.mem (.dpX dp)) (fun w v => s.acc w ||| v) ∧
    PutsInAcc s (.oraLongIndDpY dp) 0x17#8 (.mem (.longIndDpY dp)) (fun w v => s.acc w ||| v) ∧
    PutsInAcc s (.oraAddrY addr) 0x19#8 (.mem (.addrY addr)) (fun w v => s.acc w ||| v) ∧
    PutsInAcc s (.oraAddrX addr) 0x1D#8 (.mem (.addrX addr)) (fun w v => s.acc w ||| v) ∧
    PutsInAcc s (.oraLongX long) 0x1F#8 (.mem (.longX long)) (fun w v => s.acc w ||| v) ∧
    PutsInAcc s (.eorIndDpX dp) 0x41#8 (.mem (.indDpX dp)) (fun w v => s.acc w ^^^ v) ∧
    PutsInAcc s (.eorSr sr) 0x43#8 (.mem (.sr sr)) (fun w v => s.acc w ^^^ v) ∧
    PutsInAcc s (.eorDp dp) 0x45#8 (.mem (.dp dp)) (fun w v => s.acc w ^^^ v) ∧
    PutsInAcc s (.eorLongIndDp dp) 0x47#8 (.mem (.longIndDp dp)) (fun w v => s.acc w ^^^ v) ∧
    PutsInAcc s (.eorConst const) 0x49#8 (.const const) (fun w v => s.acc w ^^^ v) ∧
    PutsInAcc s (.eorAddr addr) 0x4D#8 (.mem (.addr addr)) (fun w v => s.acc w ^^^ v) ∧
    PutsInAcc s (.eorLong long) 0x4F#8 (.mem (.long long)) (fun w v => s.acc w ^^^ v) ∧
    PutsInAcc s (.eorIndDpY dp) 0x51#8 (.mem (.indDpY dp)) (fun w v => s.acc w ^^^ v) ∧
    PutsInAcc s (.eorIndDp dp) 0x52#8 (.mem (.indDp dp)) (fun w v => s.acc w ^^^ v) ∧
    PutsInAcc s (.eorIndSrY sr) 0x53#8 (.mem (.indSrY sr)) (fun w v => s.acc w ^^^ v) ∧
    PutsInAcc s (.eorDpX dp) 0x55#8 (.mem (.dpX dp)) (fun w v => s.acc w ^^^ v) ∧
    PutsInAcc s (.eorLongIndDpY dp) 0x57#8 (.mem (.longIndDpY dp)) (fun w v => s.acc w ^^^ v) ∧
    PutsInAcc s (.eorAddrY addr) 0x59#8 (.mem (.addrY addr)) (fun w v => s.acc w ^^^ v) ∧
    PutsInAcc s (.eorAddrX addr) 0x5D#8 (.mem (.addrX addr)) (fun w v => s.acc w ^^^ v) ∧
    PutsInAcc s (.eorLongX long) 0x5F#8 (.mem (.longX long)) (fun w v => s.acc w ^^^ v)

/-- BIT, every form. Every form of BIT completes in every state: z says that accumulator and operand share no set bit;
the memory forms copy n and v from the top two bits of the memory operand, BIT const keeps them; nothing else
changes but PC. -/
def Obligations.BitTests : Prop :=
  ∀ (s : State) (dp : Byte) (addr : Word) (const : Word),
    (HasOpcode s (.bitDp dp) 0x24#8 (MemForm.length (.dp dp)) ∧ ∃ t, exec (.bitDp dp) s = .next t ∧ t = { s with p := t.p, pc := t.pc } ∧
      t.flag .z = decide (s.acc s.wA &&& s.readOp (MemForm.loc (.dp dp) s) s.wA = 0#s.wA.bits) ∧
      t.flag .n = (s.readOp (MemForm.loc (.dp dp) s) s.wA).getLsbD (s.wA.bits - 1) ∧
      t.flag .v = (s.readOp (MemForm.loc (.dp dp) s) s.wA).getLsbD (s.wA.bits - 2) ∧ FlagsKept s t [.n, .v, .z] ∧
      PastInstr s t (MemForm.length (.dp dp))) ∧
    (HasOpcode s (.bitAddr addr) 0x2C#8 (MemForm.length (.addr addr)) ∧ ∃ t, exec (.bitAddr addr) s = .next t ∧ t = { s with p := t.p, pc := t.pc } ∧
      t.flag .z = decide (s.acc s.wA &&& s.readOp (MemForm.loc (.addr addr) s) s.wA = 0#s.wA.bits) ∧
      t.flag .n = (s.readOp (MemForm.loc (.addr addr) s) s.wA).getLsbD (s.wA.bits - 1) ∧
      t.flag .v = (s.readOp (MemForm.loc (.addr addr) s) s.wA).getLsbD (s.wA.bits - 2) ∧ FlagsKept s t [.n, .v, .z] ∧
      PastInstr s t (MemForm.length (.addr addr))) ∧
    (HasOpcode s (.bitDpX dp) 0x34#8 (MemForm.length (.dpX dp)) ∧ ∃ t, exec (.bitDpX dp) s = .next t ∧ t = { s with p := t.p, pc := t.pc } ∧
      t.flag .z = decide (s.acc s.wA &&& s.readOp (MemForm.loc (.dpX dp) s) s.wA = 0#s.wA.bits) ∧
      t.flag .n = (s.readOp (MemForm.loc (.dpX dp) s) s.wA).getLsbD (s.wA.bits - 1) ∧
      t.flag .v = (s.readOp (MemForm.loc (.dpX dp) s) s.wA).getLsbD (s.wA.bits - 2) ∧ FlagsKept s t [.n, .v, .z] ∧
      PastInstr s t (MemForm.length (.dpX dp))) ∧
    (HasOpcode s (.bitAddrX addr) 0x3C#8 (MemForm.length (.addrX addr)) ∧ ∃ t, exec (.bitAddrX addr) s = .next t ∧ t = { s with p := t.p, pc := t.pc } ∧
      t.flag .z = decide (s.acc s.wA &&& s.readOp (MemForm.loc (.addrX addr) s) s.wA = 0#s.wA.bits) ∧
      t.flag .n = (s.readOp (MemForm.loc (.addrX addr) s) s.wA).getLsbD (s.wA.bits - 1) ∧
      t.flag .v = (s.readOp (MemForm.loc (.addrX addr) s) s.wA).getLsbD (s.wA.bits - 2) ∧ FlagsKept s t [.n, .v, .z] ∧
      PastInstr s t (MemForm.length (.addrX addr))) ∧
    (HasOpcode s (.bitConst const) 0x89#8 (Operand.length (.const const) s.wA) ∧
      ∃ t, exec (.bitConst const) s = .next t ∧ t = { s with p := t.p, pc := t.pc } ∧
      t.flag .z = decide (s.acc s.wA &&& const.setWidth s.wA.bits = 0#s.wA.bits) ∧ FlagsKept s t [.z] ∧
      PastInstr s t (Operand.length (.const const) s.wA))

/-- CMP, CPX and CPY, every form. Every form of CMP, CPX and CPY completes in every state: n and z of the difference, c
when the register is at least the operand, unsigned; v and every other flag, every register and memory are kept; PC
moves on. That a form with a direct page pointer ((dp), (dp,X), (dp),Y, [dp] or [dp],Y) completes in emulation mode
with DL = $00 and the pointer at the last byte of the page, and from which bytes, is a choice of the model
(EMU_CORNER_POLICY, R126, log 8). -/
def Obligations.Comparisons : Prop :=
  ∀ (s : State) (dp : Byte) (sr : Byte) (addr : Word) (const : Word) (long : Addr),
    Compares s (.cmpIndDpX dp) 0xC1#8 s.wA (s.acc s.wA) (.mem (.indDpX dp)) ∧
    Compares s (.cmpSr sr) 0xC3#8 s.wA (s.acc s.wA) (.mem (.sr sr)) ∧
    Compares s (.cmpDp dp) 0xC5#8 s.wA (s.acc s.wA) (.mem (.dp dp)) ∧
    Compares s (.cmpLongIndDp dp) 0xC7#8 s.wA (s.acc s.wA) (.mem (.longIndDp dp)) ∧
    Compares s (.cmpConst const) 0xC9#8 s.wA (s.acc s.wA) (.const const) ∧
    Compares s (.cmpAddr addr) 0xCD#8 s.wA (s.acc s.wA) (.mem (.addr addr)) ∧
    Compares s (.cmpLong long) 0xCF#8 s.wA (s.acc s.wA) (.mem (.long long)) ∧
    Compares s (.cmpIndDpY dp) 0xD1#8 s.wA (s.acc s.wA) (.mem (.indDpY dp)) ∧
    Compares s (.cmpIndDp dp) 0xD2#8 s.wA (s.acc s.wA) (.mem (.indDp dp)) ∧
    Compares s (.cmpIndSrY sr) 0xD3#8 s.wA (s.acc s.wA) (.mem (.indSrY sr)) ∧
    Compares s (.cmpDpX dp) 0xD5#8 s.wA (s.acc s.wA) (.mem (.dpX dp)) ∧
    Compares s (.cmpLongIndDpY dp) 0xD7#8 s.wA (s.acc s.wA) (.mem (.longIndDpY dp)) ∧
    Compares s (.cmpAddrY addr) 0xD9#8 s.wA (s.acc s.wA) (.mem (.addrY addr)) ∧
    Compares s (.cmpAddrX addr) 0xDD#8 s.wA (s.acc s.wA) (.mem (.addrX addr)) ∧
    Compares s (.cmpLongX long) 0xDF#8 s.wA (s.acc s.wA) (.mem (.longX long)) ∧
    Compares s (.cpxConst const) 0xE0#8 s.wXY (s.regX s.wXY) (.const const) ∧
    Compares s (.cpxDp dp) 0xE4#8 s.wXY (s.regX s.wXY) (.mem (.dp dp)) ∧
    Compares s (.cpxAddr addr) 0xEC#8 s.wXY (s.regX s.wXY) (.mem (.addr addr)) ∧
    Compares s (.cpyConst const) 0xC0#8 s.wXY (s.regY s.wXY) (.const const) ∧
    Compares s (.cpyDp dp) 0xC4#8 s.wXY (s.regY s.wXY) (.mem (.dp dp)) ∧
    Compares s (.cpyAddr addr) 0xCC#8 s.wXY (s.regY s.wXY) (.mem (.addr addr))

/-- LSR, ASL, ROL and ROR, every form. Every form completes in every state: the operand moved by one position, with a
zero or the old carry shifted in, goes back where it came from (B kept when m = 1; memory forms keep the
accumulator); c is the bit shifted out, n and z show the result; nothing else changes but PC. -/
def Obligations.ShiftsAndRotates : Prop :=
  ∀ (s : State) (dp : Byte) (addr : Word),
    Modifies s (.lsrDp dp) 0x46#8 (.mem (.dp dp)) [.n, .z, .c] (fun _ t r _ c => r = t / 2 ∧ c = decide (t % 2 = 1)) ∧
    Modifies s .lsrAcc 0x4A#8 .acc [.n, .z, .c] (fun _ t r _ c => r = t / 2 ∧ c = decide (t % 2 = 1)) ∧
    Modifies s (.lsrAddr addr) 0x4E#8 (.mem (.addr addr)) [.n, .z, .c] (fun _ t r _ c => r = t / 2 ∧ c = decide (t % 2 = 1)) ∧
    Modifies s (.lsrDpX dp) 0x56#8 (.mem (.dpX dp)) [.n, .z, .c] (fun _ t r _ c => r = t / 2 ∧ c = decide (t % 2 = 1)) ∧
    Modifies s (.lsrAddrX addr) 0x5E#8 (.mem (.addrX addr)) [.n, .z, .c] (fun _ t r _ c => r = t / 2 ∧ c = decide (t % 2 = 1)) ∧
    Modifies s (.aslDp dp) 0x06#8 (.mem (.dp dp)) [.n, .z, .c] (fun w t r _ c => r = 2 * t % 2 ^ w.bits ∧ c = decide (2 ^ (w.bits - 1) ≤ t)) ∧
    Modifies s .aslAcc 0x0A#8 .acc [.n, .z, .c] (fun w t r _ c => r = 2 * t % 2 ^ w.bits ∧ c = decide (2 ^ (w.bits - 1) ≤ t)) ∧
    Modifies s (.aslAddr addr) 0x0E#8 (.mem (.addr addr)) [.n, .z, .c] (fun w t r _ c => r = 2 * t % 2 ^ w.bits ∧ c = decide (2 ^ (w.bits - 1) ≤ t)) ∧
    Modifies s (.aslDpX dp) 0x16#8 (.mem (.dpX dp)) [.n, .z, .c] (fun w t r _ c => r = 2 * t % 2 ^ w.bits ∧ c = decide (2 ^ (w.bits - 1) ≤ t)) ∧
    Modifies s (.aslAddrX addr) 0x1E#8 (.mem (.addrX addr)) [.n, .z, .c] (fun w t r _ c => r = 2 * t % 2 ^ w.bits ∧ c = decide (2 ^ (w.bits - 1) ≤ t)) ∧
    Modifies s (.rolDp dp) 0x26#8 (.mem (.dp dp)) [.n, .z, .c] (fun w t r old c => r = (2 * t + old.toNat) % 2 ^ w.bits ∧ c = decide (2 ^ (w.bits - 1) ≤ t)) ∧
    Modifies s .rolAcc 0x2A#8 .acc [.n, .z, .c] (fun w t r old c => r = (2 * t + old.toNat) % 2 ^ w.bits ∧ c = decide (2 ^ (w.bits - 1) ≤ t)) ∧
    Modifies s (.rolAddr addr) 0x2E#8 (.mem (.addr addr)) [.n, .z, .c] (fun w t r old c => r = (2 * t + old.toNat) % 2 ^ w.bits ∧ c = decide (2 ^ (w.bits - 1) ≤ t)) ∧
    Modifies s (.rolDpX dp) 0x36#8 (.mem (.dpX dp)) [.n, .z, .c] (fun w t r old c => r = (2 * t + old.toNat) % 2 ^ w.bits ∧ c = decide (2 ^ (w.bits - 1) ≤ t)) ∧
    Modifies s (.rolAddrX addr) 0x3E#8 (.mem (.addrX addr)) [.n, .z, .c] (fun w t r old c => r = (2 * t + old.toNat) % 2 ^ w.bits ∧ c = decide (2 ^ (w.bits - 1) ≤ t)) ∧
    Modifies s (.rorDp dp) 0x66#8 (.mem (.dp dp)) [.n, .z, .c] (fun w t r old c => r = t / 2 + 2 ^ (w.bits - 1) * old.toNat ∧ c = decide (t % 2 = 1)) ∧
    Modifies s .rorAcc 0x6A#8 .acc [.n, .z, .c] (fun w t r old c => r = t / 2 + 2 ^ (w.bits - 1) * old.toNat ∧ c = decide (t % 2 = 1)) ∧
    Modifies s (.rorAddr addr) 0x6E#8 (.mem (.addr addr)) [.n, .z, .c] (fun w t r old c => r = t / 2 + 2 ^ (w.bits - 1) * old.toNat ∧ c = decide (t % 2 = 1)) ∧
    Modifies s (.rorDpX dp) 0x76#8 (.mem (.dpX dp)) [.n, .z, .c] (fun w t r old c => r = t / 2 + 2 ^ (w.bits - 1) * old.toNat ∧ c = decide (t % 2 = 1)) ∧
    Modifies s (.rorAddrX addr) 0x7E#8 (.mem (.addrX addr)) [.n, .z, .c] (fun w t r old c => r = t / 2 + 2 ^ (w.bits - 1) * old.toNat ∧ c = decide (t % 2 = 1))

/-- The nine two-byte branches. Every branch completes in every state: PC becomes PC + 2 plus the signed displacement,
modulo 2^16, when its flag condition holds, and PC + 2 otherwise; nothing else changes. -/
def Obligations.RelativeBranches : Prop :=
  ∀ (s : State) (disp : Byte),
    Branches s (.bpl disp) 0x10#8 (!s.flag .n) disp ∧
    Branches s (.bmi disp) 0x30#8 (s.flag .n) disp ∧
    Branches s (.bvc disp) 0x50#8 (!s.flag .v) disp ∧
    Branches s (.bvs disp) 0x70#8 (s.flag .v) disp ∧
    Branches s (.bra disp) 0x80#8 (true) disp ∧
    Branches s (.bcc disp) 0x90#8 (!s.flag .c) disp ∧
    Branches s (.bcs disp) 0xB0#8 (s.flag .c) disp ∧
    Branches s (.bne disp) 0xD0#8 (!s.flag .z) disp ∧
    Branches s (.beq disp) 0xF0#8 (s.flag .z) disp

/-- BRL and the five forms of JMP. BRL adds its 16-bit displacement to PC + 3; JMP addr stays in the bank; JMP long
loads PBR; JMP (addr) reads its pointer from bank 0; JMP (addr,X) reads it from the program bank; JMP [addr] reads
24 bits from bank 0. Nothing else changes. -/
def Obligations.Jumps : Prop :=
  ∀ (s : State) (addr disp : Word) (long : Addr),
    (HasOpcode s (.brl disp) 0x82#8 3 ∧ exec (.brl disp) s = .next { s with pc := s.pc + 3#16 + disp }) ∧
    (HasOpcode s (.jmpAddr addr) 0x4C#8 3 ∧ exec (.jmpAddr addr) s = .next { s with pc := addr }) ∧
    (HasOpcode s (.jmpLong long) 0x5C#8 4 ∧ exec (.jmpLong long) s =
      .next { s with pc := long.extractLsb' 0 16, pbr := long.extractLsb' 16 8 }) ∧
    (HasOpcode s (.jmpIndAddr addr) 0x6C#8 3 ∧ exec (.jmpIndAddr addr) s =
      .next { s with pc := wordAt s 0x00#8 addr }) ∧
    (HasOpcode s (.jmpIndAddrX addr) 0x7C#8 3 ∧ exec (.jmpIndAddrX addr) s =
      .next { s with pc := wordAt s s.pbr (addr + s.x) }) ∧
    (HasOpcode s (.jmpLongIndAddr addr) 0xDC#8 3 ∧ exec (.jmpLongIndAddr addr) s =
      .next { s with pc := wordAt s 0x00#8 addr, pbr := s.readByte .pointer (bank0 (addr + 2#16)) })

/-- JSR addr, JSL and JSR (addr,X). The calls complete in every state: JSR pushes PC + 2, JSL pushes PBR and PC + 3,
high byte first, and go to their target; JSR (addr,X) reads its target from the program bank after the push; JSL and
JSR (addr,X) move S over 16 bits and force SH in emulation mode (the model's choice, log 8). Nothing else changes. -/
def Obligations.Calls : Prop :=
  ∀ (s : State) (addr : Word) (long : Addr),
    (HasOpcode s (.jsrAddr addr) 0x20#8 3 ∧ ∃ t, exec (.jsrAddr addr) s = .next t ∧
      t = { s with sp := t.sp, mem := t.mem, pc := addr } ∧ t.sp = pageSp s (-2) ∧
      StoredBytes s t [(pushSlot s .page 0, hi (s.pc + 2#16)), (pushSlot s .page 1, lo (s.pc + 2#16))]) ∧
    (HasOpcode s (.jsl long) 0x22#8 4 ∧ ∃ t, exec (.jsl long) s = .next t ∧
      t = { s with sp := t.sp, mem := t.mem, pc := long.extractLsb' 0 16, pbr := long.extractLsb' 16 8 } ∧
      t.sp = freeSp s (-3) ∧
      StoredBytes s t [(pushSlot s .free 0, s.pbr), (pushSlot s .free 1, hi (s.pc + 3#16)),
        (pushSlot s .free 2, lo (s.pc + 3#16))]) ∧
    (HasOpcode s (.jsrIndAddrX addr) 0xFC#8 3 ∧ ∃ t, exec (.jsrIndAddrX addr) s = .next t ∧
      t = { s with sp := t.sp, mem := t.mem, pc := t.pc } ∧ t.sp = freeSp s (-2) ∧
      t.pc = joinWord (t.readByte .pointer (bankAddr s.pbr (addr + s.x + 1#16)))
        (t.readByte .pointer (bankAddr s.pbr (addr + s.x))) ∧
      StoredBytes s t [(pushSlot s .free 0, hi (s.pc + 2#16)), (pushSlot s .free 1, lo (s.pc + 2#16))])

/-- RTS and RTL. RTS pulls PC and adds one; RTL pulls PC, adds one inside the bank, and pulls PBR, moving S over 16 bits
with SH forced in emulation mode (the model's choice, log 8). Both complete in every state and change nothing else. -/
def Obligations.Returns : Prop :=
  ∀ s : State,
    (HasOpcode s .rts 0x60#8 1 ∧ ∃ t, exec .rts s = .next t ∧ t = { s with sp := pageSp s 2, pc := t.pc } ∧
      t.pc = joinWord (s.readByte .stack (pullSlot s .page 2)) (s.readByte .stack (pullSlot s .page 1)) + 1#16) ∧
    (HasOpcode s .rtl 0x6B#8 1 ∧ ∃ t, exec .rtl s = .next t ∧
      t = { s with sp := freeSp s 3, pc := t.pc, pbr := s.readByte .stack (pullSlot s .free 3) } ∧
      t.pc = joinWord (s.readByte .stack (pullSlot s .free 2)) (s.readByte .stack (pullSlot s .free 1)) + 1#16)

/-- RTS resumes after JSR addr, and RTL after JSL in native mode. From every state of a run whose stack bytes are RAM:
JSR addr then RTS, and, in native mode, JSL then RTL, give the state back with PC after the call and only the pushed
bytes of memory changed. -/
def Obligations.CallThenReturnResumes : Prop :=
  ∀ (s : State) (addr : Word) (long : Addr), s.Inv →
    (∀ k, k < 3 → s.kindAt (pushSlot s .page k) = .ram) →
    ((after (.jsrAddr addr) s).bind (after .rts) =
      some { s with pc := s.pc + 3#16, mem := ((s.push16 .page (s.pc + 2#16)).mem) }) ∧
    (s.e = false → (after (.jsl long) s).bind (after .rtl) =
      some { s with pc := s.pc + 4#16, mem := (((s.push8 .page s.pbr).push16 .page (s.pc + 3#16)).mem) })

/-- CLC, SEC, CLI, SEI, CLV, CLD and SED. Each flag instruction completes in every state, writes the one flag its name
says and no other, and changes nothing else but PC. -/
def Obligations.FlagInstructions : Prop :=
  ∀ s : State,
    WritesOneFlag s .clc 0x18#8 .c false ∧
    WritesOneFlag s .sec 0x38#8 .c true ∧
    WritesOneFlag s .cli 0x58#8 .i false ∧
    WritesOneFlag s .sei 0x78#8 .i true ∧
    WritesOneFlag s .clv 0xB8#8 .v false ∧
    WritesOneFlag s .cld 0xD8#8 .d false ∧
    WritesOneFlag s .sed 0xF8#8 .d true

/-- The transfers into the accumulator and the index registers. TXA and TYA write the accumulator at the width of m (B
kept when m = 1), TAX, TAY, TSX, TXY and TYX write X or Y at the width of x, the high byte zero when x = 1 (TXY and
TYX in every state of a run); n and z show the value; nothing else changes but PC. -/
def Obligations.TransfersToRegisters : Prop :=
  ∀ s : State, s.Inv →
    (HasOpcode s .txa 0x8A#8 1 ∧ ∃ t, exec .txa s = .next t ∧ t = { s with c := t.c, p := t.p, pc := t.pc } ∧
      t.c = (if s.flag .m then joinWord (hi s.c) (lo s.x) else s.x) ∧ ShowsNZ t (s.x.setWidth s.wA.bits) ∧
      FlagsKept s t [.n, .z] ∧ PastInstr s t 1) ∧
    (HasOpcode s .tya 0x98#8 1 ∧ ∃ t, exec .tya s = .next t ∧ t = { s with c := t.c, p := t.p, pc := t.pc } ∧
      t.c = (if s.flag .m then joinWord (hi s.c) (lo s.y) else s.y) ∧ ShowsNZ t (s.y.setWidth s.wA.bits) ∧
      FlagsKept s t [.n, .z] ∧ PastInstr s t 1) ∧
    PutsInX s .tax 0xAA#8 1 (s.c.setWidth s.wXY.bits) ∧ PutsInY s .tay 0xA8#8 1 (s.c.setWidth s.wXY.bits) ∧
    PutsInX s .tsx 0xBA#8 1 (s.sp.setWidth s.wXY.bits) ∧ PutsInY s .txy 0x9B#8 1 (s.x.setWidth s.wXY.bits) ∧
    PutsInX s .tyx 0xBB#8 1 (s.y.setWidth s.wXY.bits)

/-- TCS, TSC, TCD, TDC and TXS. TCS and TXS write S (SL alone in emulation mode) and no flag; TSC, TCD and TDC move 16
bits whatever m is and set n and z of the 16-bit value; nothing else changes but PC. All complete in every state. -/
def Obligations.TransfersOfSpecialRegisters : Prop :=
  ∀ s : State,
    (HasOpcode s .tcs 0x1B#8 1 ∧ exec .tcs s =
      .next { s with sp := if s.e then joinWord (hi s.sp) (lo s.c) else s.c, pc := s.pc + 1#16 }) ∧
    (HasOpcode s .txs 0x9A#8 1 ∧ exec .txs s =
      .next { s with sp := if s.e then joinWord (hi s.sp) (lo s.x) else s.x, pc := s.pc + 1#16 }) ∧
    (HasOpcode s .tsc 0x3B#8 1 ∧ ∃ t, exec .tsc s = .next t ∧ t = { s with c := s.sp, p := t.p, pc := t.pc } ∧
      ShowsNZ t s.sp ∧ FlagsKept s t [.n, .z] ∧ PastInstr s t 1) ∧
    (HasOpcode s .tcd 0x5B#8 1 ∧ ∃ t, exec .tcd s = .next t ∧ t = { s with d := s.c, p := t.p, pc := t.pc } ∧
      ShowsNZ t s.c ∧ FlagsKept s t [.n, .z] ∧ PastInstr s t 1) ∧
    (HasOpcode s .tdc 0x7B#8 1 ∧ ∃ t, exec .tdc s = .next t ∧ t = { s with c := s.d, p := t.p, pc := t.pc } ∧
      ShowsNZ t s.d ∧ FlagsKept s t [.n, .z] ∧ PastInstr s t 1)

/-- One step of MVN and MVP moves one byte. MVN and MVP complete in every state: the byte at {src, X} is stored at
{dest, Y}, DBR becomes dest, X and Y move up (MVN) or down (MVP) by one at the width of x, C counts down over 16
bits, PC stays on the instruction unless C was $0000; no flag and nothing else changes. -/
def Obligations.BlockMoveStep : Prop :=
  ∀ (s : State) (src dest : Byte),
    (HasOpcode s (.mvn src dest) 0x54#8 3 ∧ ∃ t, exec (.mvn src dest) s = .next t ∧
      t = { s with c := s.c - 1#16, x := t.x, y := t.y, dbr := dest, mem := t.mem, pc := t.pc } ∧
      (t.x.toNat : Int) = ((s.x.toNat : Int) + 1) % 2 ^ s.wXY.bits ∧
      (t.y.toNat : Int) = ((s.y.toNat : Int) + 1) % 2 ^ s.wXY.bits ∧
      StoredBytes s t [(bankAddr dest s.y, s.readByte .data (bankAddr src s.x))] ∧
      t.pc = (if s.c = 0x0000#16 then s.pc + 3#16 else s.pc)) ∧
    (HasOpcode s (.mvp src dest) 0x44#8 3 ∧ ∃ t, exec (.mvp src dest) s = .next t ∧
      t = { s with c := s.c - 1#16, x := t.x, y := t.y, dbr := dest, mem := t.mem, pc := t.pc } ∧
      (t.x.toNat : Int) = ((s.x.toNat : Int) - 1) % 2 ^ s.wXY.bits ∧
      (t.y.toNat : Int) = ((s.y.toNat : Int) - 1) % 2 ^ s.wXY.bits ∧
      StoredBytes s t [(bankAddr dest s.y, s.readByte .data (bankAddr src s.x))] ∧
      t.pc = (if s.c = 0x0000#16 then s.pc + 3#16 else s.pc))

/-- MVN with 16-bit indexes between two banks copies the whole block. With 16-bit indexes, two different banks and RAM
throughout the destination bank, C + 1 executions of MVN end with C = $FFFF, X and Y moved up by the byte count, DBR
= dest and PC after the instruction; each of the C + 1 bytes has arrived; every byte outside the destination block
is kept; no other register changes. -/
def Obligations.MvnCopiesBlock : Prop :=
  ∀ (s : State) (src dest : Byte), s.flag .x = false → src ≠ dest →
    (∀ o : Word, s.kindAt (bankAddr dest o) = .ram) →
    ∃ t, repeated (.mvn src dest) (s.c.toNat + 1) s = some t ∧
      t = { s with c := 0xFFFF#16, x := t.x, y := t.y, dbr := dest, pc := s.pc + 3#16, mem := t.mem } ∧
      t.x = s.x + s.c + 1#16 ∧ t.y = s.y + s.c + 1#16 ∧
      (∀ k : Nat, k ≤ s.c.toNat → ∀ use,
        t.readByte use (bankAddr dest (s.y + BitVec.ofNat 16 k)) = s.readByte .data (bankAddr src (s.x + BitVec.ofNat 16 k))) ∧
      (∀ a : Addr, (∀ k : Nat, k ≤ s.c.toNat → a ≠ bankAddr dest (s.y + BitVec.ofNat 16 k)) →
        ∀ use, t.readByte use a = s.readByte use a)

/-- PER, PEI, PEA and PHD push two bytes. PER pushes PC + 3 plus its displacement, PEI the word at D + dp of bank 0, PEA
its operand, PHD D, each as two bytes, high byte first; S moves by the free rule (over 16 bits, SH forced to $01 at
the end in emulation mode: the model's choice, log 8); no flag and nothing else changes but PC. -/
def Obligations.EffectivePushes : Prop :=
  ∀ (s : State) (dp : Byte) (const disp : Word),
    PushesFree s (.per disp) 0x62#8 3 [hi (s.pc + 3#16 + disp), lo (s.pc + 3#16 + disp)] ∧
    PushesFree s (.pei dp) 0xD4#8 2 [s.readByte .data (bank0 (s.d + zext16 dp + 1#16)),
      s.readByte .data (bank0 (s.d + zext16 dp))] ∧
    PushesFree s (.pea const) 0xF4#8 3 [hi const, lo const] ∧
    PushesFree s .phd 0x0B#8 1 [hi s.d, lo s.d]

/-- PHP, PHA, PHK, PHY, PHB and PHX. Each push completes in every state of a run: P, PBR and DBR as one byte, the
accumulator at the width of m, X and Y at the width of x, high byte first, inside page 1 in emulation mode; only S,
memory and PC change. -/
def Obligations.RegisterPushes : Prop :=
  ∀ s : State, s.Inv →
    PushesPage s .php 0x08#8 1 [s.p] ∧ PushesPage s .pha 0x48#8 1 (pushOrder s.wA (s.acc s.wA)) ∧
    PushesPage s .phk 0x4B#8 1 [s.pbr] ∧ PushesPage s .phy 0x5A#8 1 (pushOrder s.wXY (s.regY s.wXY)) ∧
    PushesPage s .phb 0x8B#8 1 [s.dbr] ∧ PushesPage s .phx 0xDA#8 1 (pushOrder s.wXY (s.regX s.wXY))

/-- PLA, PLX, PLY, PLD and PLB. Each pull completes in every state: the register at its width from the stack, low byte
first, n and z show it; PLD and PLB move S by the free rule (the model's choice in emulation mode, log 8); nothing
else changes but S and PC. -/
def Obligations.RegisterPulls : Prop :=
  ∀ s : State,
    (HasOpcode s .pla 0x68#8 1 ∧ ∃ t, exec .pla s = .next t ∧
      t = { s with c := t.c, p := t.p, pc := t.pc, sp := pageSp s (bytesOf s.wA) } ∧ t.acc s.wA = pulledValue s s.wA ∧
      (s.flag .m = true → hi t.c = hi s.c) ∧ ShowsNZ t (pulledValue s s.wA) ∧ FlagsKept s t [.n, .z] ∧ PastInstr s t 1) ∧
    (HasOpcode s .plx 0xFA#8 1 ∧ ∃ t, exec .plx s = .next t ∧
      t = { s with x := t.x, p := t.p, pc := t.pc, sp := pageSp s (bytesOf s.wXY) } ∧
      t.x.toNat = (pulledValue s s.wXY).toNat ∧ ShowsNZ t (pulledValue s s.wXY) ∧ FlagsKept s t [.n, .z] ∧ PastInstr s t 1) ∧
    (HasOpcode s .ply 0x7A#8 1 ∧ ∃ t, exec .ply s = .next t ∧
      t = { s with y := t.y, p := t.p, pc := t.pc, sp := pageSp s (bytesOf s.wXY) } ∧
      t.y.toNat = (pulledValue s s.wXY).toNat ∧ ShowsNZ t (pulledValue s s.wXY) ∧ FlagsKept s t [.n, .z] ∧ PastInstr s t 1) ∧
    (HasOpcode s .pld 0x2B#8 1 ∧ ∃ t, exec .pld s = .next t ∧
      t = { s with d := t.d, p := t.p, pc := t.pc, sp := freeSp s 2 } ∧
      t.d = joinWord (s.readByte .stack (pullSlot s .free 2)) (s.readByte .stack (pullSlot s .free 1)) ∧ ShowsNZ t t.d ∧
      FlagsKept s t [.n, .z] ∧ PastInstr s t 1) ∧
    (HasOpcode s .plb 0xAB#8 1 ∧ ∃ t, exec .plb s = .next t ∧
      t = { s with dbr := s.readByte .stack (pullSlot s .free 1), p := t.p, pc := t.pc, sp := freeSp s 1 } ∧ ShowsNZ t t.dbr ∧
      FlagsKept s t [.n, .z] ∧ PastInstr s t 1)

/-- PLA, PLX, PLY and PLP give back what PHA, PHX, PHY and PHP saved. From every state of a run whose two stack bytes
are RAM: PHA then PLA, PHX then PLX, PHY then PLY and PHP then PLP give back the register and S, with PC two
further; PLP gives back P whole. -/
def Obligations.PushThenPullRestores : Prop :=
  ∀ s : State, s.Inv → (∀ k, k < 2 → s.kindAt (pushSlot s .page k) = .ram) →
    (∃ t, (after .pha s).bind (after .pla) = some t ∧ t = { s with mem := t.mem, p := t.p, pc := s.pc + 2#16 }) ∧
    (∃ t, (after .phx s).bind (after .plx) = some t ∧ t = { s with mem := t.mem, p := t.p, pc := s.pc + 2#16 }) ∧
    (∃ t, (after .phy s).bind (after .ply) = some t ∧ t = { s with mem := t.mem, p := t.p, pc := s.pc + 2#16 }) ∧
    (∃ t, (after .php s).bind (after .plp) = some t ∧ t = { s with mem := t.mem, pc := s.pc + 2#16 })

/-- The free stack rule differs from the page rule only at the edge of page 1. For the nine instructions that move S
over 16 bits in emulation mode (the model's choice there, log 8). In emulation mode with SH = $01: two pushes by the
free rule and SH forced give the same state as the page rule when SL is at least $01, three when SL is at least $02;
the pulls give the same byte or word and state when SL is at most $FE (one), $FD (two) and $FC (three). -/
def Obligations.StackCornerOnlyAtPageEdge : Prop :=
  ∀ (s : State) (b : Byte) (v : Word), s.e = true → hi s.sp = 0x01#8 →
    (1 ≤ (lo s.sp).toNat → (s.push16 .free v).restoreStackPage = s.push16 .page v) ∧
    (2 ≤ (lo s.sp).toNat → ((s.push8 .free b).push16 .free v).restoreStackPage = (s.push8 .page b).push16 .page v) ∧
    ((lo s.sp).toNat ≤ 0xFE → (s.pull8 .free).1 = (s.pull8 .page).1 ∧
      (s.pull8 .free).2.restoreStackPage = (s.pull8 .page).2) ∧
    ((lo s.sp).toNat ≤ 0xFD → (s.pull16 .free).1 = (s.pull16 .page).1 ∧
      (s.pull16 .free).2.restoreStackPage = (s.pull16 .page).2) ∧
    ((lo s.sp).toNat ≤ 0xFC → ((s.pull16 .free).2.pull8 .free).1 = ((s.pull16 .page).2.pull8 .page).1 ∧
      ((s.pull16 .free).2.pull8 .free).2.restoreStackPage = ((s.pull16 .page).2.pull8 .page).2)

/-- REP, SEP and PLP write P, and rule R325 follows. REP clears and SEP sets the bits of its constant, PLP pulls all of
P; then emulation mode forces m, x and SH, and x = 1 clears XH and YH; e, C and all else are kept, PC moves on.
Complete in every state of a run. -/
def Obligations.StatusMasksAndPull : Prop :=
  ∀ (s : State) (const : Byte), s.Inv →
    (HasOpcode s (.rep const) 0xC2#8 2 ∧ ∃ t, exec (.rep const) s = .next t ∧
      t = { s with p := t.p, x := t.x, y := t.y, pc := t.pc } ∧ ModeEnforced s t (s.p &&& ~~~const) s.e ∧ PastInstr s t 2) ∧
    (HasOpcode s (.sep const) 0xE2#8 2 ∧ ∃ t, exec (.sep const) s = .next t ∧
      t = { s with p := t.p, x := t.x, y := t.y, pc := t.pc } ∧ ModeEnforced s t (s.p ||| const) s.e ∧ PastInstr s t 2) ∧
    (HasOpcode s .plp 0x28#8 1 ∧ ∃ t, exec .plp s = .next t ∧
      t = { s with p := t.p, x := t.x, y := t.y, sp := t.sp, pc := t.pc } ∧
      ModeEnforced { s with sp := pageSp s 1 } t (s.readByte .stack (pullSlot s .page 1)) s.e ∧ PastInstr s t 1)

/-- XBA and XCE. XBA exchanges A and B and sets n and z of the new A, whatever m is; XCE exchanges c and e and rule R325
follows: on the way to emulation mode m, x are set, XH, YH cleared, SH $01, and on the way to native mode m and x
stay. Both complete in every state of a run; nothing else changes but PC. -/
def Obligations.ExchangeInstructions : Prop :=
  ∀ s : State, s.Inv →
    (HasOpcode s .xba 0xEB#8 1 ∧ ∃ t, exec .xba s = .next t ∧ t = { s with c := t.c, p := t.p, pc := t.pc } ∧
      lo t.c = hi s.c ∧ hi t.c = lo s.c ∧ ShowsNZ t (lo t.c) ∧ FlagsKept s t [.n, .z] ∧ PastInstr s t 1) ∧
    (HasOpcode s .xce 0xFB#8 1 ∧ ∃ t, exec .xce s = .next t ∧
      t = { s with e := s.flag .c, p := t.p, x := t.x, y := t.y, sp := t.sp, pc := t.pc } ∧
      ModeEnforced s t (withFlag s.p .c s.e) (s.flag .c) ∧ t.flag .c = s.e ∧ PastInstr s t 1)

/-- NOP does absolutely nothing, and $42 is a two-byte no-op. NOP moves PC by one and changes nothing else. That opcode
$42 moves PC by two and changes nothing else is the model's choice of WDM_POLICY = nop2 (R336, log 7). -/
def Obligations.NoOperations : Prop :=
  ∀ (s : State) (signature : Byte),
    (HasOpcode s .nop 0xEA#8 1 ∧ exec .nop s = .next { s with pc := s.pc + 1#16 }) ∧
    (HasOpcode s (.wdm signature) 0x42#8 2 ∧ exec (.wdm signature) s = .next { s with pc := s.pc + 2#16 })

/-- Every instruction completes in every state. For every instruction, with any operand, in every state, exec answers a
next state: there is no fault, no refusal, no illegal encoding and no privilege. Where the default policies of the
spec refuse, the model has chosen the values that have an effect: $42 as a two-byte no-op (WDM_POLICY, log 7) and
the stack and pointer corners of emulation mode (EMU_CORNER_POLICY, log 8); and the decimal mode draws instead of
refusing (R185, log 9). -/
def Obligations.EveryInstructionCompletes : Prop :=
  ∀ (i : Instr) (s : State), ∃ t, exec i s = .next t

/-- A step answers a next state unless ABORT is asserted. In every state a step is refused exactly when the sample
asserts ABORT, without RESET, in a machine that is not stopped; in every other case it answers a next state. The
place of the test for ABORT, after RESET and the stopped state, is that of R344 (log 6). That no other step is
refused rests on two choices of the model: $42 is a two-byte no-op (log 7) and the corners of emulation mode run
(log 8). -/
def Obligations.OnlyAbortIsRefused : Prop :=
  ∀ s : State,
    let i := s.inputs.headD Inputs.inactive
    (step s = .refused .abortAsserted ↔ i.abort = true ∧ i.reset = false ∧ s.run ≠ .stopped) ∧
    (¬(i.abort = true ∧ i.reset = false ∧ s.run ≠ .stopped) → ∃ t, step s = .next t)

/-- The invariant holds right after reset. State.reset satisfies the invariant: m = x = 1 and SH = $01 in emulation
mode, XH = YH = $00 while x = 1, memory canonical. -/
def Obligations.InvariantAtReset : Prop :=
  State.reset.Inv

/-- Every step keeps the invariant. For every state with the invariant, if a step answers a next state, that state has
it: emulation mode holds m, x at 1 and S in page 1, x = 1 holds XH and YH at zero, memory keeps its canonical form.
Every instruction, trap, reset and wait is covered. -/
def Obligations.StepKeepsInvariant : Prop :=
  ∀ s t : State, s.Inv → step s = .next t → t.Inv

/-- Only their own instructions write e, D, DBR, PBR and the run state. When an instruction answers a next state: e
changes only by XCE; D only by TCD and PLD; DBR only by PLB, MVN, MVP; PBR only by JMP long, JMP [addr], JSL, RTL,
RTI, BRK, COP; the run state only by WAI and STP; nmi_pending, platform, inputs and the draw counter by none. -/
def Obligations.ControlRegisterWriters : Prop :=
  ∀ (i : Instr) (s t : State), exec i s = .next t →
    (t.e = s.e ∨ i = .xce) ∧ (t.d = s.d ∨ i = .tcd ∨ i = .pld) ∧
    (t.dbr = s.dbr ∨ i = .plb ∨ (∃ a b, i = .mvn a b) ∨ (∃ a b, i = .mvp a b)) ∧
    (t.pbr = s.pbr ∨ (∃ a, i = .jmpLong a) ∨ (∃ a, i = .jmpLongIndAddr a) ∨ (∃ a, i = .jsl a) ∨ i = .rtl ∨ i = .rti ∨
      (∃ a, i = .brk a) ∨ (∃ a, i = .cop a)) ∧
    (t.run = s.run ∨ i = .wai ∨ i = .stp) ∧
    t.nmiPending = s.nmiPending ∧ t.platform = s.platform ∧ t.inputs = s.inputs ∧ t.drawCount = s.drawCount

/-- Only their own instructions write m, x, d and i. When an instruction answers a next state: m and x change only by
PLP, RTI, REP, SEP, XCE; d only by those but XCE and SED, CLD, BRK, COP; i only by those but XCE and SEI, CLI, BRK,
COP. -/
def Obligations.WidthAndMaskFlagWriters : Prop :=
  ∀ (i : Instr) (s t : State), exec i s = .next t →
    let whole := i = .plp ∨ i = .rti ∨ (∃ a, i = .rep a) ∨ (∃ a, i = .sep a)
    let trap := (∃ a, i = .brk a) ∨ (∃ a, i = .cop a)
    (t.flag .m = s.flag .m ∨ whole ∨ i = .xce) ∧ (t.flag .x = s.flag .x ∨ whole ∨ i = .xce) ∧
    (t.flag .d = s.flag .d ∨ whole ∨ trap ∨ i = .sed ∨ i = .cld) ∧
    (t.flag .i = s.flag .i ∨ whole ∨ trap ∨ i = .sei ∨ i = .cli)
end

