-- ==== Sys2Proof/Laws/State.lean ====
section
/-! SUPPORT. One lemma per field per update of the state: what an update leaves as it was. No later proof unfolds a record
update to know it. -/

namespace Sys2Proof.Machine

/-! ### setFlag -/

@[simp] theorem setFlag_c (s : State) (f : Flag) (b : Bool) : (s.setFlag f b).c = s.c := rfl
@[simp] theorem setFlag_x (s : State) (f : Flag) (b : Bool) : (s.setFlag f b).x = s.x := rfl
@[simp] theorem setFlag_y (s : State) (f : Flag) (b : Bool) : (s.setFlag f b).y = s.y := rfl
@[simp] theorem setFlag_sp (s : State) (f : Flag) (b : Bool) : (s.setFlag f b).sp = s.sp := rfl
@[simp] theorem setFlag_d (s : State) (f : Flag) (b : Bool) : (s.setFlag f b).d = s.d := rfl
@[simp] theorem setFlag_dbr (s : State) (f : Flag) (b : Bool) : (s.setFlag f b).dbr = s.dbr := rfl
@[simp] theorem setFlag_pbr (s : State) (f : Flag) (b : Bool) : (s.setFlag f b).pbr = s.pbr := rfl
@[simp] theorem setFlag_pc (s : State) (f : Flag) (b : Bool) : (s.setFlag f b).pc = s.pc := rfl
@[simp] theorem setFlag_e (s : State) (f : Flag) (b : Bool) : (s.setFlag f b).e = s.e := rfl
@[simp] theorem setFlag_run (s : State) (f : Flag) (b : Bool) : (s.setFlag f b).run = s.run := rfl
@[simp] theorem setFlag_nmiPending (s : State) (f : Flag) (b : Bool) : (s.setFlag f b).nmiPending = s.nmiPending := rfl
@[simp] theorem setFlag_mem (s : State) (f : Flag) (b : Bool) : (s.setFlag f b).mem = s.mem := rfl
@[simp] theorem setFlag_platform (s : State) (f : Flag) (b : Bool) : (s.setFlag f b).platform = s.platform := rfl
@[simp] theorem setFlag_inputs (s : State) (f : Flag) (b : Bool) : (s.setFlag f b).inputs = s.inputs := rfl
@[simp] theorem setFlag_drawCount (s : State) (f : Flag) (b : Bool) : (s.setFlag f b).drawCount = s.drawCount := rfl
@[simp] theorem setFlag_kindAt (s : State) (f : Flag) (b : Bool) (q : Addr) : (s.setFlag f b).kindAt q = s.kindAt q := by simp only [State.kindAt, setFlag_platform]
@[simp] theorem setFlag_readByte (s : State) (f : Flag) (b : Bool) (use : Access) (q : Addr) : (s.setFlag f b).readByte use q = s.readByte use q := by
  simp only [State.readByte, setFlag_kindAt, setFlag_mem, setFlag_drawCount]

/-! ### setNZ -/

@[simp] theorem setNZ_c {w : Nat} (s : State) (v : BitVec w) : (s.setNZ v).c = s.c := rfl
@[simp] theorem setNZ_x {w : Nat} (s : State) (v : BitVec w) : (s.setNZ v).x = s.x := rfl
@[simp] theorem setNZ_y {w : Nat} (s : State) (v : BitVec w) : (s.setNZ v).y = s.y := rfl
@[simp] theorem setNZ_sp {w : Nat} (s : State) (v : BitVec w) : (s.setNZ v).sp = s.sp := rfl
@[simp] theorem setNZ_d {w : Nat} (s : State) (v : BitVec w) : (s.setNZ v).d = s.d := rfl
@[simp] theorem setNZ_dbr {w : Nat} (s : State) (v : BitVec w) : (s.setNZ v).dbr = s.dbr := rfl
@[simp] theorem setNZ_pbr {w : Nat} (s : State) (v : BitVec w) : (s.setNZ v).pbr = s.pbr := rfl
@[simp] theorem setNZ_pc {w : Nat} (s : State) (v : BitVec w) : (s.setNZ v).pc = s.pc := rfl
@[simp] theorem setNZ_e {w : Nat} (s : State) (v : BitVec w) : (s.setNZ v).e = s.e := rfl
@[simp] theorem setNZ_run {w : Nat} (s : State) (v : BitVec w) : (s.setNZ v).run = s.run := rfl
@[simp] theorem setNZ_nmiPending {w : Nat} (s : State) (v : BitVec w) : (s.setNZ v).nmiPending = s.nmiPending := rfl
@[simp] theorem setNZ_mem {w : Nat} (s : State) (v : BitVec w) : (s.setNZ v).mem = s.mem := rfl
@[simp] theorem setNZ_platform {w : Nat} (s : State) (v : BitVec w) : (s.setNZ v).platform = s.platform := rfl
@[simp] theorem setNZ_inputs {w : Nat} (s : State) (v : BitVec w) : (s.setNZ v).inputs = s.inputs := rfl
@[simp] theorem setNZ_drawCount {w : Nat} (s : State) (v : BitVec w) : (s.setNZ v).drawCount = s.drawCount := rfl
@[simp] theorem setNZ_kindAt {w : Nat} (s : State) (v : BitVec w) (q : Addr) : (s.setNZ v).kindAt q = s.kindAt q := by simp only [State.kindAt, setNZ_platform]
@[simp] theorem setNZ_readByte {w : Nat} (s : State) (v : BitVec w) (use : Access) (q : Addr) : (s.setNZ v).readByte use q = s.readByte use q := by
  simp only [State.readByte, setNZ_kindAt, setNZ_mem, setNZ_drawCount]

/-! ### setSumFlags -/

@[simp] theorem setSumFlags_c {w : Nat} (s : State) (o : SumOutcome w) : (s.setSumFlags o).c = s.c := rfl
@[simp] theorem setSumFlags_x {w : Nat} (s : State) (o : SumOutcome w) : (s.setSumFlags o).x = s.x := rfl
@[simp] theorem setSumFlags_y {w : Nat} (s : State) (o : SumOutcome w) : (s.setSumFlags o).y = s.y := rfl
@[simp] theorem setSumFlags_sp {w : Nat} (s : State) (o : SumOutcome w) : (s.setSumFlags o).sp = s.sp := rfl
@[simp] theorem setSumFlags_d {w : Nat} (s : State) (o : SumOutcome w) : (s.setSumFlags o).d = s.d := rfl
@[simp] theorem setSumFlags_dbr {w : Nat} (s : State) (o : SumOutcome w) : (s.setSumFlags o).dbr = s.dbr := rfl
@[simp] theorem setSumFlags_pbr {w : Nat} (s : State) (o : SumOutcome w) : (s.setSumFlags o).pbr = s.pbr := rfl
@[simp] theorem setSumFlags_pc {w : Nat} (s : State) (o : SumOutcome w) : (s.setSumFlags o).pc = s.pc := rfl
@[simp] theorem setSumFlags_e {w : Nat} (s : State) (o : SumOutcome w) : (s.setSumFlags o).e = s.e := rfl
@[simp] theorem setSumFlags_run {w : Nat} (s : State) (o : SumOutcome w) : (s.setSumFlags o).run = s.run := rfl
@[simp] theorem setSumFlags_nmiPending {w : Nat} (s : State) (o : SumOutcome w) : (s.setSumFlags o).nmiPending = s.nmiPending := rfl
@[simp] theorem setSumFlags_mem {w : Nat} (s : State) (o : SumOutcome w) : (s.setSumFlags o).mem = s.mem := rfl
@[simp] theorem setSumFlags_platform {w : Nat} (s : State) (o : SumOutcome w) : (s.setSumFlags o).platform = s.platform := rfl
@[simp] theorem setSumFlags_inputs {w : Nat} (s : State) (o : SumOutcome w) : (s.setSumFlags o).inputs = s.inputs := rfl
@[simp] theorem setSumFlags_drawCount {w : Nat} (s : State) (o : SumOutcome w) : (s.setSumFlags o).drawCount = s.drawCount := rfl
@[simp] theorem setSumFlags_kindAt {w : Nat} (s : State) (o : SumOutcome w) (q : Addr) : (s.setSumFlags o).kindAt q = s.kindAt q := by simp only [State.kindAt, setSumFlags_platform]
@[simp] theorem setSumFlags_readByte {w : Nat} (s : State) (o : SumOutcome w) (use : Access) (q : Addr) : (s.setSumFlags o).readByte use q = s.readByte use q := by
  simp only [State.readByte, setSumFlags_kindAt, setSumFlags_mem, setSumFlags_drawCount]

/-! ### compareFlags -/

@[simp] theorem compareFlags_c {w : Nat} (s : State) (r v : BitVec w) : (s.compareFlags r v).c = s.c := rfl
@[simp] theorem compareFlags_x {w : Nat} (s : State) (r v : BitVec w) : (s.compareFlags r v).x = s.x := rfl
@[simp] theorem compareFlags_y {w : Nat} (s : State) (r v : BitVec w) : (s.compareFlags r v).y = s.y := rfl
@[simp] theorem compareFlags_sp {w : Nat} (s : State) (r v : BitVec w) : (s.compareFlags r v).sp = s.sp := rfl
@[simp] theorem compareFlags_d {w : Nat} (s : State) (r v : BitVec w) : (s.compareFlags r v).d = s.d := rfl
@[simp] theorem compareFlags_dbr {w : Nat} (s : State) (r v : BitVec w) : (s.compareFlags r v).dbr = s.dbr := rfl
@[simp] theorem compareFlags_pbr {w : Nat} (s : State) (r v : BitVec w) : (s.compareFlags r v).pbr = s.pbr := rfl
@[simp] theorem compareFlags_pc {w : Nat} (s : State) (r v : BitVec w) : (s.compareFlags r v).pc = s.pc := rfl
@[simp] theorem compareFlags_e {w : Nat} (s : State) (r v : BitVec w) : (s.compareFlags r v).e = s.e := rfl
@[simp] theorem compareFlags_run {w : Nat} (s : State) (r v : BitVec w) : (s.compareFlags r v).run = s.run := rfl
@[simp] theorem compareFlags_nmiPending {w : Nat} (s : State) (r v : BitVec w) : (s.compareFlags r v).nmiPending = s.nmiPending := rfl
@[simp] theorem compareFlags_mem {w : Nat} (s : State) (r v : BitVec w) : (s.compareFlags r v).mem = s.mem := rfl
@[simp] theorem compareFlags_platform {w : Nat} (s : State) (r v : BitVec w) : (s.compareFlags r v).platform = s.platform := rfl
@[simp] theorem compareFlags_inputs {w : Nat} (s : State) (r v : BitVec w) : (s.compareFlags r v).inputs = s.inputs := rfl
@[simp] theorem compareFlags_drawCount {w : Nat} (s : State) (r v : BitVec w) : (s.compareFlags r v).drawCount = s.drawCount := rfl
@[simp] theorem compareFlags_kindAt {w : Nat} (s : State) (r v : BitVec w) (q : Addr) : (s.compareFlags r v).kindAt q = s.kindAt q := by simp only [State.kindAt, compareFlags_platform]
@[simp] theorem compareFlags_readByte {w : Nat} (s : State) (r v : BitVec w) (use : Access) (q : Addr) : (s.compareFlags r v).readByte use q = s.readByte use q := by
  simp only [State.readByte, compareFlags_kindAt, compareFlags_mem, compareFlags_drawCount]

/-! ### setShiftFlags -/

@[simp] theorem setShiftFlags_c {w : Nat} (s : State) (o : ShiftOutcome w) : (s.setShiftFlags o).c = s.c := rfl
@[simp] theorem setShiftFlags_x {w : Nat} (s : State) (o : ShiftOutcome w) : (s.setShiftFlags o).x = s.x := rfl
@[simp] theorem setShiftFlags_y {w : Nat} (s : State) (o : ShiftOutcome w) : (s.setShiftFlags o).y = s.y := rfl
@[simp] theorem setShiftFlags_sp {w : Nat} (s : State) (o : ShiftOutcome w) : (s.setShiftFlags o).sp = s.sp := rfl
@[simp] theorem setShiftFlags_d {w : Nat} (s : State) (o : ShiftOutcome w) : (s.setShiftFlags o).d = s.d := rfl
@[simp] theorem setShiftFlags_dbr {w : Nat} (s : State) (o : ShiftOutcome w) : (s.setShiftFlags o).dbr = s.dbr := rfl
@[simp] theorem setShiftFlags_pbr {w : Nat} (s : State) (o : ShiftOutcome w) : (s.setShiftFlags o).pbr = s.pbr := rfl
@[simp] theorem setShiftFlags_pc {w : Nat} (s : State) (o : ShiftOutcome w) : (s.setShiftFlags o).pc = s.pc := rfl
@[simp] theorem setShiftFlags_e {w : Nat} (s : State) (o : ShiftOutcome w) : (s.setShiftFlags o).e = s.e := rfl
@[simp] theorem setShiftFlags_run {w : Nat} (s : State) (o : ShiftOutcome w) : (s.setShiftFlags o).run = s.run := rfl
@[simp] theorem setShiftFlags_nmiPending {w : Nat} (s : State) (o : ShiftOutcome w) : (s.setShiftFlags o).nmiPending = s.nmiPending := rfl
@[simp] theorem setShiftFlags_mem {w : Nat} (s : State) (o : ShiftOutcome w) : (s.setShiftFlags o).mem = s.mem := rfl
@[simp] theorem setShiftFlags_platform {w : Nat} (s : State) (o : ShiftOutcome w) : (s.setShiftFlags o).platform = s.platform := rfl
@[simp] theorem setShiftFlags_inputs {w : Nat} (s : State) (o : ShiftOutcome w) : (s.setShiftFlags o).inputs = s.inputs := rfl
@[simp] theorem setShiftFlags_drawCount {w : Nat} (s : State) (o : ShiftOutcome w) : (s.setShiftFlags o).drawCount = s.drawCount := rfl
@[simp] theorem setShiftFlags_kindAt {w : Nat} (s : State) (o : ShiftOutcome w) (q : Addr) : (s.setShiftFlags o).kindAt q = s.kindAt q := by simp only [State.kindAt, setShiftFlags_platform]
@[simp] theorem setShiftFlags_readByte {w : Nat} (s : State) (o : ShiftOutcome w) (use : Access) (q : Addr) : (s.setShiftFlags o).readByte use q = s.readByte use q := by
  simp only [State.readByte, setShiftFlags_kindAt, setShiftFlags_mem, setShiftFlags_drawCount]

/-! ### writeByte -/

@[simp] theorem writeByte_c (s : State) (a : Addr) (v : Byte) : (s.writeByte a v).c = s.c := rfl
@[simp] theorem writeByte_x (s : State) (a : Addr) (v : Byte) : (s.writeByte a v).x = s.x := rfl
@[simp] theorem writeByte_y (s : State) (a : Addr) (v : Byte) : (s.writeByte a v).y = s.y := rfl
@[simp] theorem writeByte_sp (s : State) (a : Addr) (v : Byte) : (s.writeByte a v).sp = s.sp := rfl
@[simp] theorem writeByte_d (s : State) (a : Addr) (v : Byte) : (s.writeByte a v).d = s.d := rfl
@[simp] theorem writeByte_dbr (s : State) (a : Addr) (v : Byte) : (s.writeByte a v).dbr = s.dbr := rfl
@[simp] theorem writeByte_pbr (s : State) (a : Addr) (v : Byte) : (s.writeByte a v).pbr = s.pbr := rfl
@[simp] theorem writeByte_pc (s : State) (a : Addr) (v : Byte) : (s.writeByte a v).pc = s.pc := rfl
@[simp] theorem writeByte_p (s : State) (a : Addr) (v : Byte) : (s.writeByte a v).p = s.p := rfl
@[simp] theorem writeByte_e (s : State) (a : Addr) (v : Byte) : (s.writeByte a v).e = s.e := rfl
@[simp] theorem writeByte_run (s : State) (a : Addr) (v : Byte) : (s.writeByte a v).run = s.run := rfl
@[simp] theorem writeByte_nmiPending (s : State) (a : Addr) (v : Byte) : (s.writeByte a v).nmiPending = s.nmiPending := rfl
@[simp] theorem writeByte_platform (s : State) (a : Addr) (v : Byte) : (s.writeByte a v).platform = s.platform := rfl
@[simp] theorem writeByte_inputs (s : State) (a : Addr) (v : Byte) : (s.writeByte a v).inputs = s.inputs := rfl
@[simp] theorem writeByte_drawCount (s : State) (a : Addr) (v : Byte) : (s.writeByte a v).drawCount = s.drawCount := rfl
@[simp] theorem writeByte_flag (s : State) (a : Addr) (v : Byte) (g : Flag) : (s.writeByte a v).flag g = s.flag g := by simp only [State.flag, writeByte_p]
@[simp] theorem writeByte_wA (s : State) (a : Addr) (v : Byte) : (s.writeByte a v).wA = s.wA := by simp only [State.wA, writeByte_flag]
@[simp] theorem writeByte_wXY (s : State) (a : Addr) (v : Byte) : (s.writeByte a v).wXY = s.wXY := by simp only [State.wXY, writeByte_flag]
@[simp] theorem writeByte_kindAt (s : State) (a : Addr) (v : Byte) (q : Addr) : (s.writeByte a v).kindAt q = s.kindAt q := by simp only [State.kindAt, writeByte_platform]

/-! ### writeOp -/

@[simp] theorem writeOp_c (s : State) (l : Loc) (w : Width) (v : BitVec w.bits) : (s.writeOp l w v).c = s.c := by cases w <;> rfl
@[simp] theorem writeOp_x (s : State) (l : Loc) (w : Width) (v : BitVec w.bits) : (s.writeOp l w v).x = s.x := by cases w <;> rfl
@[simp] theorem writeOp_y (s : State) (l : Loc) (w : Width) (v : BitVec w.bits) : (s.writeOp l w v).y = s.y := by cases w <;> rfl
@[simp] theorem writeOp_sp (s : State) (l : Loc) (w : Width) (v : BitVec w.bits) : (s.writeOp l w v).sp = s.sp := by cases w <;> rfl
@[simp] theorem writeOp_d (s : State) (l : Loc) (w : Width) (v : BitVec w.bits) : (s.writeOp l w v).d = s.d := by cases w <;> rfl
@[simp] theorem writeOp_dbr (s : State) (l : Loc) (w : Width) (v : BitVec w.bits) : (s.writeOp l w v).dbr = s.dbr := by cases w <;> rfl
@[simp] theorem writeOp_pbr (s : State) (l : Loc) (w : Width) (v : BitVec w.bits) : (s.writeOp l w v).pbr = s.pbr := by cases w <;> rfl
@[simp] theorem writeOp_pc (s : State) (l : Loc) (w : Width) (v : BitVec w.bits) : (s.writeOp l w v).pc = s.pc := by cases w <;> rfl
@[simp] theorem writeOp_p (s : State) (l : Loc) (w : Width) (v : BitVec w.bits) : (s.writeOp l w v).p = s.p := by cases w <;> rfl
@[simp] theorem writeOp_e (s : State) (l : Loc) (w : Width) (v : BitVec w.bits) : (s.writeOp l w v).e = s.e := by cases w <;> rfl
@[simp] theorem writeOp_run (s : State) (l : Loc) (w : Width) (v : BitVec w.bits) : (s.writeOp l w v).run = s.run := by cases w <;> rfl
@[simp] theorem writeOp_nmiPending (s : State) (l : Loc) (w : Width) (v : BitVec w.bits) : (s.writeOp l w v).nmiPending = s.nmiPending := by cases w <;> rfl
@[simp] theorem writeOp_platform (s : State) (l : Loc) (w : Width) (v : BitVec w.bits) : (s.writeOp l w v).platform = s.platform := by cases w <;> rfl
@[simp] theorem writeOp_inputs (s : State) (l : Loc) (w : Width) (v : BitVec w.bits) : (s.writeOp l w v).inputs = s.inputs := by cases w <;> rfl
@[simp] theorem writeOp_drawCount (s : State) (l : Loc) (w : Width) (v : BitVec w.bits) : (s.writeOp l w v).drawCount = s.drawCount := by cases w <;> rfl
@[simp] theorem writeOp_flag (s : State) (l : Loc) (w : Width) (v : BitVec w.bits) (g : Flag) : (s.writeOp l w v).flag g = s.flag g := by simp only [State.flag, writeOp_p]
@[simp] theorem writeOp_wA (s : State) (l : Loc) (w : Width) (v : BitVec w.bits) : (s.writeOp l w v).wA = s.wA := by simp only [State.wA, writeOp_flag]
@[simp] theorem writeOp_wXY (s : State) (l : Loc) (w : Width) (v : BitVec w.bits) : (s.writeOp l w v).wXY = s.wXY := by simp only [State.wXY, writeOp_flag]
@[simp] theorem writeOp_kindAt (s : State) (l : Loc) (w : Width) (v : BitVec w.bits) (q : Addr) : (s.writeOp l w v).kindAt q = s.kindAt q := by simp only [State.kindAt, writeOp_platform]

/-! ### writeBack -/

@[simp] theorem writeBack_c (s : State) (l : Loc) (w : Width) (v : BitVec w.bits) : (s.writeBack l w v).c = s.c := by cases w <;> rfl
@[simp] theorem writeBack_x (s : State) (l : Loc) (w : Width) (v : BitVec w.bits) : (s.writeBack l w v).x = s.x := by cases w <;> rfl
@[simp] theorem writeBack_y (s : State) (l : Loc) (w : Width) (v : BitVec w.bits) : (s.writeBack l w v).y = s.y := by cases w <;> rfl
@[simp] theorem writeBack_sp (s : State) (l : Loc) (w : Width) (v : BitVec w.bits) : (s.writeBack l w v).sp = s.sp := by cases w <;> rfl
@[simp] theorem writeBack_d (s : State) (l : Loc) (w : Width) (v : BitVec w.bits) : (s.writeBack l w v).d = s.d := by cases w <;> rfl
@[simp] theorem writeBack_dbr (s : State) (l : Loc) (w : Width) (v : BitVec w.bits) : (s.writeBack l w v).dbr = s.dbr := by cases w <;> rfl
@[simp] theorem writeBack_pbr (s : State) (l : Loc) (w : Width) (v : BitVec w.bits) : (s.writeBack l w v).pbr = s.pbr := by cases w <;> rfl
@[simp] theorem writeBack_pc (s : State) (l : Loc) (w : Width) (v : BitVec w.bits) : (s.writeBack l w v).pc = s.pc := by cases w <;> rfl
@[simp] theorem writeBack_p (s : State) (l : Loc) (w : Width) (v : BitVec w.bits) : (s.writeBack l w v).p = s.p := by cases w <;> rfl
@[simp] theorem writeBack_e (s : State) (l : Loc) (w : Width) (v : BitVec w.bits) : (s.writeBack l w v).e = s.e := by cases w <;> rfl
@[simp] theorem writeBack_run (s : State) (l : Loc) (w : Width) (v : BitVec w.bits) : (s.writeBack l w v).run = s.run := by cases w <;> rfl
@[simp] theorem writeBack_nmiPending (s : State) (l : Loc) (w : Width) (v : BitVec w.bits) : (s.writeBack l w v).nmiPending = s.nmiPending := by cases w <;> rfl
@[simp] theorem writeBack_platform (s : State) (l : Loc) (w : Width) (v : BitVec w.bits) : (s.writeBack l w v).platform = s.platform := by cases w <;> rfl
@[simp] theorem writeBack_inputs (s : State) (l : Loc) (w : Width) (v : BitVec w.bits) : (s.writeBack l w v).inputs = s.inputs := by cases w <;> rfl
@[simp] theorem writeBack_drawCount (s : State) (l : Loc) (w : Width) (v : BitVec w.bits) : (s.writeBack l w v).drawCount = s.drawCount := by cases w <;> rfl
@[simp] theorem writeBack_flag (s : State) (l : Loc) (w : Width) (v : BitVec w.bits) (g : Flag) : (s.writeBack l w v).flag g = s.flag g := by simp only [State.flag, writeBack_p]
@[simp] theorem writeBack_wA (s : State) (l : Loc) (w : Width) (v : BitVec w.bits) : (s.writeBack l w v).wA = s.wA := by simp only [State.wA, writeBack_flag]
@[simp] theorem writeBack_wXY (s : State) (l : Loc) (w : Width) (v : BitVec w.bits) : (s.writeBack l w v).wXY = s.wXY := by simp only [State.wXY, writeBack_flag]
@[simp] theorem writeBack_kindAt (s : State) (l : Loc) (w : Width) (v : BitVec w.bits) (q : Addr) : (s.writeBack l w v).kindAt q = s.kindAt q := by simp only [State.kindAt, writeBack_platform]

/-! ### setAcc -/

@[simp] theorem setAcc_x (s : State) (w : Width) (v : BitVec w.bits) : (s.setAcc w v).x = s.x := rfl
@[simp] theorem setAcc_y (s : State) (w : Width) (v : BitVec w.bits) : (s.setAcc w v).y = s.y := rfl
@[simp] theorem setAcc_sp (s : State) (w : Width) (v : BitVec w.bits) : (s.setAcc w v).sp = s.sp := rfl
@[simp] theorem setAcc_d (s : State) (w : Width) (v : BitVec w.bits) : (s.setAcc w v).d = s.d := rfl
@[simp] theorem setAcc_dbr (s : State) (w : Width) (v : BitVec w.bits) : (s.setAcc w v).dbr = s.dbr := rfl
@[simp] theorem setAcc_pbr (s : State) (w : Width) (v : BitVec w.bits) : (s.setAcc w v).pbr = s.pbr := rfl
@[simp] theorem setAcc_pc (s : State) (w : Width) (v : BitVec w.bits) : (s.setAcc w v).pc = s.pc := rfl
@[simp] theorem setAcc_p (s : State) (w : Width) (v : BitVec w.bits) : (s.setAcc w v).p = s.p := rfl
@[simp] theorem setAcc_e (s : State) (w : Width) (v : BitVec w.bits) : (s.setAcc w v).e = s.e := rfl
@[simp] theorem setAcc_run (s : State) (w : Width) (v : BitVec w.bits) : (s.setAcc w v).run = s.run := rfl
@[simp] theorem setAcc_nmiPending (s : State) (w : Width) (v : BitVec w.bits) : (s.setAcc w v).nmiPending = s.nmiPending := rfl
@[simp] theorem setAcc_mem (s : State) (w : Width) (v : BitVec w.bits) : (s.setAcc w v).mem = s.mem := rfl
@[simp] theorem setAcc_platform (s : State) (w : Width) (v : BitVec w.bits) : (s.setAcc w v).platform = s.platform := rfl
@[simp] theorem setAcc_inputs (s : State) (w : Width) (v : BitVec w.bits) : (s.setAcc w v).inputs = s.inputs := rfl
@[simp] theorem setAcc_drawCount (s : State) (w : Width) (v : BitVec w.bits) : (s.setAcc w v).drawCount = s.drawCount := rfl
@[simp] theorem setAcc_flag (s : State) (w : Width) (v : BitVec w.bits) (g : Flag) : (s.setAcc w v).flag g = s.flag g := by simp only [State.flag, setAcc_p]
@[simp] theorem setAcc_wA (s : State) (w : Width) (v : BitVec w.bits) : (s.setAcc w v).wA = s.wA := by simp only [State.wA, setAcc_flag]
@[simp] theorem setAcc_wXY (s : State) (w : Width) (v : BitVec w.bits) : (s.setAcc w v).wXY = s.wXY := by simp only [State.wXY, setAcc_flag]
@[simp] theorem setAcc_kindAt (s : State) (w : Width) (v : BitVec w.bits) (q : Addr) : (s.setAcc w v).kindAt q = s.kindAt q := by simp only [State.kindAt, setAcc_platform]
@[simp] theorem setAcc_readByte (s : State) (w : Width) (v : BitVec w.bits) (use : Access) (q : Addr) : (s.setAcc w v).readByte use q = s.readByte use q := by
  simp only [State.readByte, setAcc_kindAt, setAcc_mem, setAcc_drawCount]

/-! ### setX -/

@[simp] theorem setX_c (s : State) (w : Width) (v : BitVec w.bits) : (s.setX w v).c = s.c := rfl
@[simp] theorem setX_y (s : State) (w : Width) (v : BitVec w.bits) : (s.setX w v).y = s.y := rfl
@[simp] theorem setX_sp (s : State) (w : Width) (v : BitVec w.bits) : (s.setX w v).sp = s.sp := rfl
@[simp] theorem setX_d (s : State) (w : Width) (v : BitVec w.bits) : (s.setX w v).d = s.d := rfl
@[simp] theorem setX_dbr (s : State) (w : Width) (v : BitVec w.bits) : (s.setX w v).dbr = s.dbr := rfl
@[simp] theorem setX_pbr (s : State) (w : Width) (v : BitVec w.bits) : (s.setX w v).pbr = s.pbr := rfl
@[simp] theorem setX_pc (s : State) (w : Width) (v : BitVec w.bits) : (s.setX w v).pc = s.pc := rfl
@[simp] theorem setX_p (s : State) (w : Width) (v : BitVec w.bits) : (s.setX w v).p = s.p := rfl
@[simp] theorem setX_e (s : State) (w : Width) (v : BitVec w.bits) : (s.setX w v).e = s.e := rfl
@[simp] theorem setX_run (s : State) (w : Width) (v : BitVec w.bits) : (s.setX w v).run = s.run := rfl
@[simp] theorem setX_nmiPending (s : State) (w : Width) (v : BitVec w.bits) : (s.setX w v).nmiPending = s.nmiPending := rfl
@[simp] theorem setX_mem (s : State) (w : Width) (v : BitVec w.bits) : (s.setX w v).mem = s.mem := rfl
@[simp] theorem setX_platform (s : State) (w : Width) (v : BitVec w.bits) : (s.setX w v).platform = s.platform := rfl
@[simp] theorem setX_inputs (s : State) (w : Width) (v : BitVec w.bits) : (s.setX w v).inputs = s.inputs := rfl
@[simp] theorem setX_drawCount (s : State) (w : Width) (v : BitVec w.bits) : (s.setX w v).drawCount = s.drawCount := rfl
@[simp] theorem setX_flag (s : State) (w : Width) (v : BitVec w.bits) (g : Flag) : (s.setX w v).flag g = s.flag g := by simp only [State.flag, setX_p]
@[simp] theorem setX_wA (s : State) (w : Width) (v : BitVec w.bits) : (s.setX w v).wA = s.wA := by simp only [State.wA, setX_flag]
@[simp] theorem setX_wXY (s : State) (w : Width) (v : BitVec w.bits) : (s.setX w v).wXY = s.wXY := by simp only [State.wXY, setX_flag]
@[simp] theorem setX_kindAt (s : State) (w : Width) (v : BitVec w.bits) (q : Addr) : (s.setX w v).kindAt q = s.kindAt q := by simp only [State.kindAt, setX_platform]
@[simp] theorem setX_readByte (s : State) (w : Width) (v : BitVec w.bits) (use : Access) (q : Addr) : (s.setX w v).readByte use q = s.readByte use q := by
  simp only [State.readByte, setX_kindAt, setX_mem, setX_drawCount]

/-! ### setY -/

@[simp] theorem setY_c (s : State) (w : Width) (v : BitVec w.bits) : (s.setY w v).c = s.c := rfl
@[simp] theorem setY_x (s : State) (w : Width) (v : BitVec w.bits) : (s.setY w v).x = s.x := rfl
@[simp] theorem setY_sp (s : State) (w : Width) (v : BitVec w.bits) : (s.setY w v).sp = s.sp := rfl
@[simp] theorem setY_d (s : State) (w : Width) (v : BitVec w.bits) : (s.setY w v).d = s.d := rfl
@[simp] theorem setY_dbr (s : State) (w : Width) (v : BitVec w.bits) : (s.setY w v).dbr = s.dbr := rfl
@[simp] theorem setY_pbr (s : State) (w : Width) (v : BitVec w.bits) : (s.setY w v).pbr = s.pbr := rfl
@[simp] theorem setY_pc (s : State) (w : Width) (v : BitVec w.bits) : (s.setY w v).pc = s.pc := rfl
@[simp] theorem setY_p (s : State) (w : Width) (v : BitVec w.bits) : (s.setY w v).p = s.p := rfl
@[simp] theorem setY_e (s : State) (w : Width) (v : BitVec w.bits) : (s.setY w v).e = s.e := rfl
@[simp] theorem setY_run (s : State) (w : Width) (v : BitVec w.bits) : (s.setY w v).run = s.run := rfl
@[simp] theorem setY_nmiPending (s : State) (w : Width) (v : BitVec w.bits) : (s.setY w v).nmiPending = s.nmiPending := rfl
@[simp] theorem setY_mem (s : State) (w : Width) (v : BitVec w.bits) : (s.setY w v).mem = s.mem := rfl
@[simp] theorem setY_platform (s : State) (w : Width) (v : BitVec w.bits) : (s.setY w v).platform = s.platform := rfl
@[simp] theorem setY_inputs (s : State) (w : Width) (v : BitVec w.bits) : (s.setY w v).inputs = s.inputs := rfl
@[simp] theorem setY_drawCount (s : State) (w : Width) (v : BitVec w.bits) : (s.setY w v).drawCount = s.drawCount := rfl
@[simp] theorem setY_flag (s : State) (w : Width) (v : BitVec w.bits) (g : Flag) : (s.setY w v).flag g = s.flag g := by simp only [State.flag, setY_p]
@[simp] theorem setY_wA (s : State) (w : Width) (v : BitVec w.bits) : (s.setY w v).wA = s.wA := by simp only [State.wA, setY_flag]
@[simp] theorem setY_wXY (s : State) (w : Width) (v : BitVec w.bits) : (s.setY w v).wXY = s.wXY := by simp only [State.wXY, setY_flag]
@[simp] theorem setY_kindAt (s : State) (w : Width) (v : BitVec w.bits) (q : Addr) : (s.setY w v).kindAt q = s.kindAt q := by simp only [State.kindAt, setY_platform]
@[simp] theorem setY_readByte (s : State) (w : Width) (v : BitVec w.bits) (use : Access) (q : Addr) : (s.setY w v).readByte use q = s.readByte use q := by
  simp only [State.readByte, setY_kindAt, setY_mem, setY_drawCount]

/-! ### setStackPointer -/

@[simp] theorem setStackPointer_c (s : State) (v : Word) : (s.setStackPointer v).c = s.c := rfl
@[simp] theorem setStackPointer_x (s : State) (v : Word) : (s.setStackPointer v).x = s.x := rfl
@[simp] theorem setStackPointer_y (s : State) (v : Word) : (s.setStackPointer v).y = s.y := rfl
@[simp] theorem setStackPointer_d (s : State) (v : Word) : (s.setStackPointer v).d = s.d := rfl
@[simp] theorem setStackPointer_dbr (s : State) (v : Word) : (s.setStackPointer v).dbr = s.dbr := rfl
@[simp] theorem setStackPointer_pbr (s : State) (v : Word) : (s.setStackPointer v).pbr = s.pbr := rfl
@[simp] theorem setStackPointer_pc (s : State) (v : Word) : (s.setStackPointer v).pc = s.pc := rfl
@[simp] theorem setStackPointer_p (s : State) (v : Word) : (s.setStackPointer v).p = s.p := rfl
@[simp] theorem setStackPointer_e (s : State) (v : Word) : (s.setStackPointer v).e = s.e := rfl
@[simp] theorem setStackPointer_run (s : State) (v : Word) : (s.setStackPointer v).run = s.run := rfl
@[simp] theorem setStackPointer_nmiPending (s : State) (v : Word) : (s.setStackPointer v).nmiPending = s.nmiPending := rfl
@[simp] theorem setStackPointer_mem (s : State) (v : Word) : (s.setStackPointer v).mem = s.mem := rfl
@[simp] theorem setStackPointer_platform (s : State) (v : Word) : (s.setStackPointer v).platform = s.platform := rfl
@[simp] theorem setStackPointer_inputs (s : State) (v : Word) : (s.setStackPointer v).inputs = s.inputs := rfl
@[simp] theorem setStackPointer_drawCount (s : State) (v : Word) : (s.setStackPointer v).drawCount = s.drawCount := rfl
@[simp] theorem setStackPointer_flag (s : State) (v : Word) (g : Flag) : (s.setStackPointer v).flag g = s.flag g := by simp only [State.flag, setStackPointer_p]
@[simp] theorem setStackPointer_wA (s : State) (v : Word) : (s.setStackPointer v).wA = s.wA := by simp only [State.wA, setStackPointer_flag]
@[simp] theorem setStackPointer_wXY (s : State) (v : Word) : (s.setStackPointer v).wXY = s.wXY := by simp only [State.wXY, setStackPointer_flag]
@[simp] theorem setStackPointer_kindAt (s : State) (v : Word) (q : Addr) : (s.setStackPointer v).kindAt q = s.kindAt q := by simp only [State.kindAt, setStackPointer_platform]
@[simp] theorem setStackPointer_readByte (s : State) (v : Word) (use : Access) (q : Addr) : (s.setStackPointer v).readByte use q = s.readByte use q := by
  simp only [State.readByte, setStackPointer_kindAt, setStackPointer_mem, setStackPointer_drawCount]

/-! ### advance -/

@[simp] theorem advance_c (s : State) (n : Nat) : (s.advance n).c = s.c := rfl
@[simp] theorem advance_x (s : State) (n : Nat) : (s.advance n).x = s.x := rfl
@[simp] theorem advance_y (s : State) (n : Nat) : (s.advance n).y = s.y := rfl
@[simp] theorem advance_sp (s : State) (n : Nat) : (s.advance n).sp = s.sp := rfl
@[simp] theorem advance_d (s : State) (n : Nat) : (s.advance n).d = s.d := rfl
@[simp] theorem advance_dbr (s : State) (n : Nat) : (s.advance n).dbr = s.dbr := rfl
@[simp] theorem advance_pbr (s : State) (n : Nat) : (s.advance n).pbr = s.pbr := rfl
@[simp] theorem advance_p (s : State) (n : Nat) : (s.advance n).p = s.p := rfl
@[simp] theorem advance_e (s : State) (n : Nat) : (s.advance n).e = s.e := rfl
@[simp] theorem advance_run (s : State) (n : Nat) : (s.advance n).run = s.run := rfl
@[simp] theorem advance_nmiPending (s : State) (n : Nat) : (s.advance n).nmiPending = s.nmiPending := rfl
@[simp] theorem advance_mem (s : State) (n : Nat) : (s.advance n).mem = s.mem := rfl
@[simp] theorem advance_platform (s : State) (n : Nat) : (s.advance n).platform = s.platform := rfl
@[simp] theorem advance_inputs (s : State) (n : Nat) : (s.advance n).inputs = s.inputs := rfl
@[simp] theorem advance_drawCount (s : State) (n : Nat) : (s.advance n).drawCount = s.drawCount := rfl
@[simp] theorem advance_flag (s : State) (n : Nat) (g : Flag) : (s.advance n).flag g = s.flag g := by simp only [State.flag, advance_p]
@[simp] theorem advance_wA (s : State) (n : Nat) : (s.advance n).wA = s.wA := by simp only [State.wA, advance_flag]
@[simp] theorem advance_wXY (s : State) (n : Nat) : (s.advance n).wXY = s.wXY := by simp only [State.wXY, advance_flag]
@[simp] theorem advance_kindAt (s : State) (n : Nat) (q : Addr) : (s.advance n).kindAt q = s.kindAt q := by simp only [State.kindAt, advance_platform]
@[simp] theorem advance_readByte (s : State) (n : Nat) (use : Access) (q : Addr) : (s.advance n).readByte use q = s.readByte use q := by
  simp only [State.readByte, advance_kindAt, advance_mem, advance_drawCount]

/-! ### jump -/

@[simp] theorem jump_c (s : State) (t : Word) : (s.jump t).c = s.c := rfl
@[simp] theorem jump_x (s : State) (t : Word) : (s.jump t).x = s.x := rfl
@[simp] theorem jump_y (s : State) (t : Word) : (s.jump t).y = s.y := rfl
@[simp] theorem jump_sp (s : State) (t : Word) : (s.jump t).sp = s.sp := rfl
@[simp] theorem jump_d (s : State) (t : Word) : (s.jump t).d = s.d := rfl
@[simp] theorem jump_dbr (s : State) (t : Word) : (s.jump t).dbr = s.dbr := rfl
@[simp] theorem jump_pbr (s : State) (t : Word) : (s.jump t).pbr = s.pbr := rfl
@[simp] theorem jump_p (s : State) (t : Word) : (s.jump t).p = s.p := rfl
@[simp] theorem jump_e (s : State) (t : Word) : (s.jump t).e = s.e := rfl
@[simp] theorem jump_run (s : State) (t : Word) : (s.jump t).run = s.run := rfl
@[simp] theorem jump_nmiPending (s : State) (t : Word) : (s.jump t).nmiPending = s.nmiPending := rfl
@[simp] theorem jump_mem (s : State) (t : Word) : (s.jump t).mem = s.mem := rfl
@[simp] theorem jump_platform (s : State) (t : Word) : (s.jump t).platform = s.platform := rfl
@[simp] theorem jump_inputs (s : State) (t : Word) : (s.jump t).inputs = s.inputs := rfl
@[simp] theorem jump_drawCount (s : State) (t : Word) : (s.jump t).drawCount = s.drawCount := rfl
@[simp] theorem jump_flag (s : State) (t : Word) (g : Flag) : (s.jump t).flag g = s.flag g := by simp only [State.flag, jump_p]
@[simp] theorem jump_wA (s : State) (t : Word) : (s.jump t).wA = s.wA := by simp only [State.wA, jump_flag]
@[simp] theorem jump_wXY (s : State) (t : Word) : (s.jump t).wXY = s.wXY := by simp only [State.wXY, jump_flag]
@[simp] theorem jump_kindAt (s : State) (t : Word) (q : Addr) : (s.jump t).kindAt q = s.kindAt q := by simp only [State.kindAt, jump_platform]
@[simp] theorem jump_readByte (s : State) (t : Word) (use : Access) (q : Addr) : (s.jump t).readByte use q = s.readByte use q := by
  simp only [State.readByte, jump_kindAt, jump_mem, jump_drawCount]

/-! ### jumpLong -/

@[simp] theorem jumpLong_c (s : State) (t : Addr) : (s.jumpLong t).c = s.c := rfl
@[simp] theorem jumpLong_x (s : State) (t : Addr) : (s.jumpLong t).x = s.x := rfl
@[simp] theorem jumpLong_y (s : State) (t : Addr) : (s.jumpLong t).y = s.y := rfl
@[simp] theorem jumpLong_sp (s : State) (t : Addr) : (s.jumpLong t).sp = s.sp := rfl
@[simp] theorem jumpLong_d (s : State) (t : Addr) : (s.jumpLong t).d = s.d := rfl
@[simp] theorem jumpLong_dbr (s : State) (t : Addr) : (s.jumpLong t).dbr = s.dbr := rfl
@[simp] theorem jumpLong_p (s : State) (t : Addr) : (s.jumpLong t).p = s.p := rfl
@[simp] theorem jumpLong_e (s : State) (t : Addr) : (s.jumpLong t).e = s.e := rfl
@[simp] theorem jumpLong_run (s : State) (t : Addr) : (s.jumpLong t).run = s.run := rfl
@[simp] theorem jumpLong_nmiPending (s : State) (t : Addr) : (s.jumpLong t).nmiPending = s.nmiPending := rfl
@[simp] theorem jumpLong_mem (s : State) (t : Addr) : (s.jumpLong t).mem = s.mem := rfl
@[simp] theorem jumpLong_platform (s : State) (t : Addr) : (s.jumpLong t).platform = s.platform := rfl
@[simp] theorem jumpLong_inputs (s : State) (t : Addr) : (s.jumpLong t).inputs = s.inputs := rfl
@[simp] theorem jumpLong_drawCount (s : State) (t : Addr) : (s.jumpLong t).drawCount = s.drawCount := rfl
@[simp] theorem jumpLong_flag (s : State) (t : Addr) (g : Flag) : (s.jumpLong t).flag g = s.flag g := by simp only [State.flag, jumpLong_p]
@[simp] theorem jumpLong_wA (s : State) (t : Addr) : (s.jumpLong t).wA = s.wA := by simp only [State.wA, jumpLong_flag]
@[simp] theorem jumpLong_wXY (s : State) (t : Addr) : (s.jumpLong t).wXY = s.wXY := by simp only [State.wXY, jumpLong_flag]
@[simp] theorem jumpLong_kindAt (s : State) (t : Addr) (q : Addr) : (s.jumpLong t).kindAt q = s.kindAt q := by simp only [State.kindAt, jumpLong_platform]
@[simp] theorem jumpLong_readByte (s : State) (t : Addr) (use : Access) (q : Addr) : (s.jumpLong t).readByte use q = s.readByte use q := by
  simp only [State.readByte, jumpLong_kindAt, jumpLong_mem, jumpLong_drawCount]

/-! ### enforceMode -/

@[simp] theorem enforceMode_c (s : State) : s.enforceMode.c = s.c := rfl
@[simp] theorem enforceMode_d (s : State) : s.enforceMode.d = s.d := rfl
@[simp] theorem enforceMode_dbr (s : State) : s.enforceMode.dbr = s.dbr := rfl
@[simp] theorem enforceMode_pbr (s : State) : s.enforceMode.pbr = s.pbr := rfl
@[simp] theorem enforceMode_pc (s : State) : s.enforceMode.pc = s.pc := rfl
@[simp] theorem enforceMode_e (s : State) : s.enforceMode.e = s.e := rfl
@[simp] theorem enforceMode_run (s : State) : s.enforceMode.run = s.run := rfl
@[simp] theorem enforceMode_nmiPending (s : State) : s.enforceMode.nmiPending = s.nmiPending := rfl
@[simp] theorem enforceMode_mem (s : State) : s.enforceMode.mem = s.mem := rfl
@[simp] theorem enforceMode_platform (s : State) : s.enforceMode.platform = s.platform := rfl
@[simp] theorem enforceMode_inputs (s : State) : s.enforceMode.inputs = s.inputs := rfl
@[simp] theorem enforceMode_drawCount (s : State) : s.enforceMode.drawCount = s.drawCount := rfl
@[simp] theorem enforceMode_kindAt (s : State) (q : Addr) : s.enforceMode.kindAt q = s.kindAt q := by simp only [State.kindAt, enforceMode_platform]
@[simp] theorem enforceMode_readByte (s : State) (use : Access) (q : Addr) : s.enforceMode.readByte use q = s.readByte use q := by
  simp only [State.readByte, enforceMode_kindAt, enforceMode_mem, enforceMode_drawCount]

/-! ### writeP -/

@[simp] theorem writeP_c (s : State) (v : Byte) : (s.writeP v).c = s.c := rfl
@[simp] theorem writeP_d (s : State) (v : Byte) : (s.writeP v).d = s.d := rfl
@[simp] theorem writeP_dbr (s : State) (v : Byte) : (s.writeP v).dbr = s.dbr := rfl
@[simp] theorem writeP_pbr (s : State) (v : Byte) : (s.writeP v).pbr = s.pbr := rfl
@[simp] theorem writeP_pc (s : State) (v : Byte) : (s.writeP v).pc = s.pc := rfl
@[simp] theorem writeP_e (s : State) (v : Byte) : (s.writeP v).e = s.e := rfl
@[simp] theorem writeP_run (s : State) (v : Byte) : (s.writeP v).run = s.run := rfl
@[simp] theorem writeP_nmiPending (s : State) (v : Byte) : (s.writeP v).nmiPending = s.nmiPending := rfl
@[simp] theorem writeP_mem (s : State) (v : Byte) : (s.writeP v).mem = s.mem := rfl
@[simp] theorem writeP_platform (s : State) (v : Byte) : (s.writeP v).platform = s.platform := rfl
@[simp] theorem writeP_inputs (s : State) (v : Byte) : (s.writeP v).inputs = s.inputs := rfl
@[simp] theorem writeP_drawCount (s : State) (v : Byte) : (s.writeP v).drawCount = s.drawCount := rfl
@[simp] theorem writeP_kindAt (s : State) (v : Byte) (q : Addr) : (s.writeP v).kindAt q = s.kindAt q := by simp only [State.kindAt, writeP_platform]
@[simp] theorem writeP_readByte (s : State) (v : Byte) (use : Access) (q : Addr) : (s.writeP v).readByte use q = s.readByte use q := by
  simp only [State.readByte, writeP_kindAt, writeP_mem, writeP_drawCount]

/-! ### moveStack -/

@[simp] theorem moveStack_c (s : State) (r : StackRule) (k : Word) : (s.moveStack r k).c = s.c := rfl
@[simp] theorem moveStack_x (s : State) (r : StackRule) (k : Word) : (s.moveStack r k).x = s.x := rfl
@[simp] theorem moveStack_y (s : State) (r : StackRule) (k : Word) : (s.moveStack r k).y = s.y := rfl
@[simp] theorem moveStack_d (s : State) (r : StackRule) (k : Word) : (s.moveStack r k).d = s.d := rfl
@[simp] theorem moveStack_dbr (s : State) (r : StackRule) (k : Word) : (s.moveStack r k).dbr = s.dbr := rfl
@[simp] theorem moveStack_pbr (s : State) (r : StackRule) (k : Word) : (s.moveStack r k).pbr = s.pbr := rfl
@[simp] theorem moveStack_pc (s : State) (r : StackRule) (k : Word) : (s.moveStack r k).pc = s.pc := rfl
@[simp] theorem moveStack_p (s : State) (r : StackRule) (k : Word) : (s.moveStack r k).p = s.p := rfl
@[simp] theorem moveStack_e (s : State) (r : StackRule) (k : Word) : (s.moveStack r k).e = s.e := rfl
@[simp] theorem moveStack_run (s : State) (r : StackRule) (k : Word) : (s.moveStack r k).run = s.run := rfl
@[simp] theorem moveStack_nmiPending (s : State) (r : StackRule) (k : Word) : (s.moveStack r k).nmiPending = s.nmiPending := rfl
@[simp] theorem moveStack_mem (s : State) (r : StackRule) (k : Word) : (s.moveStack r k).mem = s.mem := rfl
@[simp] theorem moveStack_platform (s : State) (r : StackRule) (k : Word) : (s.moveStack r k).platform = s.platform := rfl
@[simp] theorem moveStack_inputs (s : State) (r : StackRule) (k : Word) : (s.moveStack r k).inputs = s.inputs := rfl
@[simp] theorem moveStack_drawCount (s : State) (r : StackRule) (k : Word) : (s.moveStack r k).drawCount = s.drawCount := rfl
@[simp] theorem moveStack_flag (s : State) (r : StackRule) (k : Word) (g : Flag) : (s.moveStack r k).flag g = s.flag g := by simp only [State.flag, moveStack_p]
@[simp] theorem moveStack_wA (s : State) (r : StackRule) (k : Word) : (s.moveStack r k).wA = s.wA := by simp only [State.wA, moveStack_flag]
@[simp] theorem moveStack_wXY (s : State) (r : StackRule) (k : Word) : (s.moveStack r k).wXY = s.wXY := by simp only [State.wXY, moveStack_flag]
@[simp] theorem moveStack_kindAt (s : State) (r : StackRule) (k : Word) (q : Addr) : (s.moveStack r k).kindAt q = s.kindAt q := by simp only [State.kindAt, moveStack_platform]
@[simp] theorem moveStack_readByte (s : State) (r : StackRule) (k : Word) (use : Access) (q : Addr) : (s.moveStack r k).readByte use q = s.readByte use q := by
  simp only [State.readByte, moveStack_kindAt, moveStack_mem, moveStack_drawCount]

/-! ### push8 -/

@[simp] theorem push8_c (s : State) (r : StackRule) (v : Byte) : (s.push8 r v).c = s.c := rfl
@[simp] theorem push8_x (s : State) (r : StackRule) (v : Byte) : (s.push8 r v).x = s.x := rfl
@[simp] theorem push8_y (s : State) (r : StackRule) (v : Byte) : (s.push8 r v).y = s.y := rfl
@[simp] theorem push8_d (s : State) (r : StackRule) (v : Byte) : (s.push8 r v).d = s.d := rfl
@[simp] theorem push8_dbr (s : State) (r : StackRule) (v : Byte) : (s.push8 r v).dbr = s.dbr := rfl
@[simp] theorem push8_pbr (s : State) (r : StackRule) (v : Byte) : (s.push8 r v).pbr = s.pbr := rfl
@[simp] theorem push8_pc (s : State) (r : StackRule) (v : Byte) : (s.push8 r v).pc = s.pc := rfl
@[simp] theorem push8_p (s : State) (r : StackRule) (v : Byte) : (s.push8 r v).p = s.p := rfl
@[simp] theorem push8_e (s : State) (r : StackRule) (v : Byte) : (s.push8 r v).e = s.e := rfl
@[simp] theorem push8_run (s : State) (r : StackRule) (v : Byte) : (s.push8 r v).run = s.run := rfl
@[simp] theorem push8_nmiPending (s : State) (r : StackRule) (v : Byte) : (s.push8 r v).nmiPending = s.nmiPending := rfl
@[simp] theorem push8_platform (s : State) (r : StackRule) (v : Byte) : (s.push8 r v).platform = s.platform := rfl
@[simp] theorem push8_inputs (s : State) (r : StackRule) (v : Byte) : (s.push8 r v).inputs = s.inputs := rfl
@[simp] theorem push8_drawCount (s : State) (r : StackRule) (v : Byte) : (s.push8 r v).drawCount = s.drawCount := rfl
@[simp] theorem push8_flag (s : State) (r : StackRule) (v : Byte) (g : Flag) : (s.push8 r v).flag g = s.flag g := by simp only [State.flag, push8_p]
@[simp] theorem push8_wA (s : State) (r : StackRule) (v : Byte) : (s.push8 r v).wA = s.wA := by simp only [State.wA, push8_flag]
@[simp] theorem push8_wXY (s : State) (r : StackRule) (v : Byte) : (s.push8 r v).wXY = s.wXY := by simp only [State.wXY, push8_flag]
@[simp] theorem push8_kindAt (s : State) (r : StackRule) (v : Byte) (q : Addr) : (s.push8 r v).kindAt q = s.kindAt q := by simp only [State.kindAt, push8_platform]

/-! ### push16 -/

@[simp] theorem push16_c (s : State) (r : StackRule) (v : Word) : (s.push16 r v).c = s.c := rfl
@[simp] theorem push16_x (s : State) (r : StackRule) (v : Word) : (s.push16 r v).x = s.x := rfl
@[simp] theorem push16_y (s : State) (r : StackRule) (v : Word) : (s.push16 r v).y = s.y := rfl
@[simp] theorem push16_d (s : State) (r : StackRule) (v : Word) : (s.push16 r v).d = s.d := rfl
@[simp] theorem push16_dbr (s : State) (r : StackRule) (v : Word) : (s.push16 r v).dbr = s.dbr := rfl
@[simp] theorem push16_pbr (s : State) (r : StackRule) (v : Word) : (s.push16 r v).pbr = s.pbr := rfl
@[simp] theorem push16_pc (s : State) (r : StackRule) (v : Word) : (s.push16 r v).pc = s.pc := rfl
@[simp] theorem push16_p (s : State) (r : StackRule) (v : Word) : (s.push16 r v).p = s.p := rfl
@[simp] theorem push16_e (s : State) (r : StackRule) (v : Word) : (s.push16 r v).e = s.e := rfl
@[simp] theorem push16_run (s : State) (r : StackRule) (v : Word) : (s.push16 r v).run = s.run := rfl
@[simp] theorem push16_nmiPending (s : State) (r : StackRule) (v : Word) : (s.push16 r v).nmiPending = s.nmiPending := rfl
@[simp] theorem push16_platform (s : State) (r : StackRule) (v : Word) : (s.push16 r v).platform = s.platform := rfl
@[simp] theorem push16_inputs (s : State) (r : StackRule) (v : Word) : (s.push16 r v).inputs = s.inputs := rfl
@[simp] theorem push16_drawCount (s : State) (r : StackRule) (v : Word) : (s.push16 r v).drawCount = s.drawCount := rfl
@[simp] theorem push16_flag (s : State) (r : StackRule) (v : Word) (g : Flag) : (s.push16 r v).flag g = s.flag g := by simp only [State.flag, push16_p]
@[simp] theorem push16_wA (s : State) (r : StackRule) (v : Word) : (s.push16 r v).wA = s.wA := by simp only [State.wA, push16_flag]
@[simp] theorem push16_wXY (s : State) (r : StackRule) (v : Word) : (s.push16 r v).wXY = s.wXY := by simp only [State.wXY, push16_flag]
@[simp] theorem push16_kindAt (s : State) (r : StackRule) (v : Word) (q : Addr) : (s.push16 r v).kindAt q = s.kindAt q := by simp only [State.kindAt, push16_platform]

/-! ### pull8 -/

@[simp] theorem pull8_c (s : State) (r : StackRule) : (s.pull8 r).2.c = s.c := rfl
@[simp] theorem pull8_x (s : State) (r : StackRule) : (s.pull8 r).2.x = s.x := rfl
@[simp] theorem pull8_y (s : State) (r : StackRule) : (s.pull8 r).2.y = s.y := rfl
@[simp] theorem pull8_d (s : State) (r : StackRule) : (s.pull8 r).2.d = s.d := rfl
@[simp] theorem pull8_dbr (s : State) (r : StackRule) : (s.pull8 r).2.dbr = s.dbr := rfl
@[simp] theorem pull8_pbr (s : State) (r : StackRule) : (s.pull8 r).2.pbr = s.pbr := rfl
@[simp] theorem pull8_pc (s : State) (r : StackRule) : (s.pull8 r).2.pc = s.pc := rfl
@[simp] theorem pull8_p (s : State) (r : StackRule) : (s.pull8 r).2.p = s.p := rfl
@[simp] theorem pull8_e (s : State) (r : StackRule) : (s.pull8 r).2.e = s.e := rfl
@[simp] theorem pull8_run (s : State) (r : StackRule) : (s.pull8 r).2.run = s.run := rfl
@[simp] theorem pull8_nmiPending (s : State) (r : StackRule) : (s.pull8 r).2.nmiPending = s.nmiPending := rfl
@[simp] theorem pull8_mem (s : State) (r : StackRule) : (s.pull8 r).2.mem = s.mem := rfl
@[simp] theorem pull8_platform (s : State) (r : StackRule) : (s.pull8 r).2.platform = s.platform := rfl
@[simp] theorem pull8_inputs (s : State) (r : StackRule) : (s.pull8 r).2.inputs = s.inputs := rfl
@[simp] theorem pull8_drawCount (s : State) (r : StackRule) : (s.pull8 r).2.drawCount = s.drawCount := rfl
@[simp] theorem pull8_flag (s : State) (r : StackRule) (g : Flag) : (s.pull8 r).2.flag g = s.flag g := by simp only [State.flag, pull8_p]
@[simp] theorem pull8_wA (s : State) (r : StackRule) : (s.pull8 r).2.wA = s.wA := by simp only [State.wA, pull8_flag]
@[simp] theorem pull8_wXY (s : State) (r : StackRule) : (s.pull8 r).2.wXY = s.wXY := by simp only [State.wXY, pull8_flag]
@[simp] theorem pull8_kindAt (s : State) (r : StackRule) (q : Addr) : (s.pull8 r).2.kindAt q = s.kindAt q := by simp only [State.kindAt, pull8_platform]
@[simp] theorem pull8_readByte (s : State) (r : StackRule) (use : Access) (q : Addr) : (s.pull8 r).2.readByte use q = s.readByte use q := by
  simp only [State.readByte, pull8_kindAt, pull8_mem, pull8_drawCount]

/-! ### pull16 -/

@[simp] theorem pull16_c (s : State) (r : StackRule) : (s.pull16 r).2.c = s.c := rfl
@[simp] theorem pull16_x (s : State) (r : StackRule) : (s.pull16 r).2.x = s.x := rfl
@[simp] theorem pull16_y (s : State) (r : StackRule) : (s.pull16 r).2.y = s.y := rfl
@[simp] theorem pull16_d (s : State) (r : StackRule) : (s.pull16 r).2.d = s.d := rfl
@[simp] theorem pull16_dbr (s : State) (r : StackRule) : (s.pull16 r).2.dbr = s.dbr := rfl
@[simp] theorem pull16_pbr (s : State) (r : StackRule) : (s.pull16 r).2.pbr = s.pbr := rfl
@[simp] theorem pull16_pc (s : State) (r : StackRule) : (s.pull16 r).2.pc = s.pc := rfl
@[simp] theorem pull16_p (s : State) (r : StackRule) : (s.pull16 r).2.p = s.p := rfl
@[simp] theorem pull16_e (s : State) (r : StackRule) : (s.pull16 r).2.e = s.e := rfl
@[simp] theorem pull16_run (s : State) (r : StackRule) : (s.pull16 r).2.run = s.run := rfl
@[simp] theorem pull16_nmiPending (s : State) (r : StackRule) : (s.pull16 r).2.nmiPending = s.nmiPending := rfl
@[simp] theorem pull16_mem (s : State) (r : StackRule) : (s.pull16 r).2.mem = s.mem := rfl
@[simp] theorem pull16_platform (s : State) (r : StackRule) : (s.pull16 r).2.platform = s.platform := rfl
@[simp] theorem pull16_inputs (s : State) (r : StackRule) : (s.pull16 r).2.inputs = s.inputs := rfl
@[simp] theorem pull16_drawCount (s : State) (r : StackRule) : (s.pull16 r).2.drawCount = s.drawCount := rfl
@[simp] theorem pull16_flag (s : State) (r : StackRule) (g : Flag) : (s.pull16 r).2.flag g = s.flag g := by simp only [State.flag, pull16_p]
@[simp] theorem pull16_wA (s : State) (r : StackRule) : (s.pull16 r).2.wA = s.wA := by simp only [State.wA, pull16_flag]
@[simp] theorem pull16_wXY (s : State) (r : StackRule) : (s.pull16 r).2.wXY = s.wXY := by simp only [State.wXY, pull16_flag]
@[simp] theorem pull16_kindAt (s : State) (r : StackRule) (q : Addr) : (s.pull16 r).2.kindAt q = s.kindAt q := by simp only [State.kindAt, pull16_platform]
@[simp] theorem pull16_readByte (s : State) (r : StackRule) (use : Access) (q : Addr) : (s.pull16 r).2.readByte use q = s.readByte use q := by
  simp only [State.readByte, pull16_kindAt, pull16_mem, pull16_drawCount]

/-! ### pushReg -/

@[simp] theorem pushReg_c (s : State) (w : Width) (v : BitVec w.bits) : (s.pushReg w v).c = s.c := by cases w <;> rfl
@[simp] theorem pushReg_x (s : State) (w : Width) (v : BitVec w.bits) : (s.pushReg w v).x = s.x := by cases w <;> rfl
@[simp] theorem pushReg_y (s : State) (w : Width) (v : BitVec w.bits) : (s.pushReg w v).y = s.y := by cases w <;> rfl
@[simp] theorem pushReg_d (s : State) (w : Width) (v : BitVec w.bits) : (s.pushReg w v).d = s.d := by cases w <;> rfl
@[simp] theorem pushReg_dbr (s : State) (w : Width) (v : BitVec w.bits) : (s.pushReg w v).dbr = s.dbr := by cases w <;> rfl
@[simp] theorem pushReg_pbr (s : State) (w : Width) (v : BitVec w.bits) : (s.pushReg w v).pbr = s.pbr := by cases w <;> rfl
@[simp] theorem pushReg_pc (s : State) (w : Width) (v : BitVec w.bits) : (s.pushReg w v).pc = s.pc := by cases w <;> rfl
@[simp] theorem pushReg_p (s : State) (w : Width) (v : BitVec w.bits) : (s.pushReg w v).p = s.p := by cases w <;> rfl
@[simp] theorem pushReg_e (s : State) (w : Width) (v : BitVec w.bits) : (s.pushReg w v).e = s.e := by cases w <;> rfl
@[simp] theorem pushReg_run (s : State) (w : Width) (v : BitVec w.bits) : (s.pushReg w v).run = s.run := by cases w <;> rfl
@[simp] theorem pushReg_nmiPending (s : State) (w : Width) (v : BitVec w.bits) : (s.pushReg w v).nmiPending = s.nmiPending := by cases w <;> rfl
@[simp] theorem pushReg_platform (s : State) (w : Width) (v : BitVec w.bits) : (s.pushReg w v).platform = s.platform := by cases w <;> rfl
@[simp] theorem pushReg_inputs (s : State) (w : Width) (v : BitVec w.bits) : (s.pushReg w v).inputs = s.inputs := by cases w <;> rfl
@[simp] theorem pushReg_drawCount (s : State) (w : Width) (v : BitVec w.bits) : (s.pushReg w v).drawCount = s.drawCount := by cases w <;> rfl
@[simp] theorem pushReg_flag (s : State) (w : Width) (v : BitVec w.bits) (g : Flag) : (s.pushReg w v).flag g = s.flag g := by simp only [State.flag, pushReg_p]
@[simp] theorem pushReg_wA (s : State) (w : Width) (v : BitVec w.bits) : (s.pushReg w v).wA = s.wA := by simp only [State.wA, pushReg_flag]
@[simp] theorem pushReg_wXY (s : State) (w : Width) (v : BitVec w.bits) : (s.pushReg w v).wXY = s.wXY := by simp only [State.wXY, pushReg_flag]
@[simp] theorem pushReg_kindAt (s : State) (w : Width) (v : BitVec w.bits) (q : Addr) : (s.pushReg w v).kindAt q = s.kindAt q := by simp only [State.kindAt, pushReg_platform]

/-! ### pullReg -/

@[simp] theorem pullReg_c (s : State) (w : Width) : (s.pullReg w).2.c = s.c := by cases w <;> rfl
@[simp] theorem pullReg_x (s : State) (w : Width) : (s.pullReg w).2.x = s.x := by cases w <;> rfl
@[simp] theorem pullReg_y (s : State) (w : Width) : (s.pullReg w).2.y = s.y := by cases w <;> rfl
@[simp] theorem pullReg_d (s : State) (w : Width) : (s.pullReg w).2.d = s.d := by cases w <;> rfl
@[simp] theorem pullReg_dbr (s : State) (w : Width) : (s.pullReg w).2.dbr = s.dbr := by cases w <;> rfl
@[simp] theorem pullReg_pbr (s : State) (w : Width) : (s.pullReg w).2.pbr = s.pbr := by cases w <;> rfl
@[simp] theorem pullReg_pc (s : State) (w : Width) : (s.pullReg w).2.pc = s.pc := by cases w <;> rfl
@[simp] theorem pullReg_p (s : State) (w : Width) : (s.pullReg w).2.p = s.p := by cases w <;> rfl
@[simp] theorem pullReg_e (s : State) (w : Width) : (s.pullReg w).2.e = s.e := by cases w <;> rfl
@[simp] theorem pullReg_run (s : State) (w : Width) : (s.pullReg w).2.run = s.run := by cases w <;> rfl
@[simp] theorem pullReg_nmiPending (s : State) (w : Width) : (s.pullReg w).2.nmiPending = s.nmiPending := by cases w <;> rfl
@[simp] theorem pullReg_mem (s : State) (w : Width) : (s.pullReg w).2.mem = s.mem := by cases w <;> rfl
@[simp] theorem pullReg_platform (s : State) (w : Width) : (s.pullReg w).2.platform = s.platform := by cases w <;> rfl
@[simp] theorem pullReg_inputs (s : State) (w : Width) : (s.pullReg w).2.inputs = s.inputs := by cases w <;> rfl
@[simp] theorem pullReg_drawCount (s : State) (w : Width) : (s.pullReg w).2.drawCount = s.drawCount := by cases w <;> rfl
@[simp] theorem pullReg_flag (s : State) (w : Width) (g : Flag) : (s.pullReg w).2.flag g = s.flag g := by simp only [State.flag, pullReg_p]
@[simp] theorem pullReg_wA (s : State) (w : Width) : (s.pullReg w).2.wA = s.wA := by simp only [State.wA, pullReg_flag]
@[simp] theorem pullReg_wXY (s : State) (w : Width) : (s.pullReg w).2.wXY = s.wXY := by simp only [State.wXY, pullReg_flag]
@[simp] theorem pullReg_kindAt (s : State) (w : Width) (q : Addr) : (s.pullReg w).2.kindAt q = s.kindAt q := by simp only [State.kindAt, pullReg_platform]
@[simp] theorem pullReg_readByte (s : State) (w : Width) (use : Access) (q : Addr) : (s.pullReg w).2.readByte use q = s.readByte use q := by
  simp only [State.readByte, pullReg_kindAt, pullReg_mem, pullReg_drawCount]

/-! ### restoreStackPage -/

@[simp] theorem restoreStackPage_c (s : State) : s.restoreStackPage.c = s.c := rfl
@[simp] theorem restoreStackPage_x (s : State) : s.restoreStackPage.x = s.x := rfl
@[simp] theorem restoreStackPage_y (s : State) : s.restoreStackPage.y = s.y := rfl
@[simp] theorem restoreStackPage_d (s : State) : s.restoreStackPage.d = s.d := rfl
@[simp] theorem restoreStackPage_dbr (s : State) : s.restoreStackPage.dbr = s.dbr := rfl
@[simp] theorem restoreStackPage_pbr (s : State) : s.restoreStackPage.pbr = s.pbr := rfl
@[simp] theorem restoreStackPage_pc (s : State) : s.restoreStackPage.pc = s.pc := rfl
@[simp] theorem restoreStackPage_p (s : State) : s.restoreStackPage.p = s.p := rfl
@[simp] theorem restoreStackPage_e (s : State) : s.restoreStackPage.e = s.e := rfl
@[simp] theorem restoreStackPage_run (s : State) : s.restoreStackPage.run = s.run := rfl
@[simp] theorem restoreStackPage_nmiPending (s : State) : s.restoreStackPage.nmiPending = s.nmiPending := rfl
@[simp] theorem restoreStackPage_mem (s : State) : s.restoreStackPage.mem = s.mem := rfl
@[simp] theorem restoreStackPage_platform (s : State) : s.restoreStackPage.platform = s.platform := rfl
@[simp] theorem restoreStackPage_inputs (s : State) : s.restoreStackPage.inputs = s.inputs := rfl
@[simp] theorem restoreStackPage_drawCount (s : State) : s.restoreStackPage.drawCount = s.drawCount := rfl
@[simp] theorem restoreStackPage_flag (s : State) (g : Flag) : s.restoreStackPage.flag g = s.flag g := by simp only [State.flag, restoreStackPage_p]
@[simp] theorem restoreStackPage_wA (s : State) : s.restoreStackPage.wA = s.wA := by simp only [State.wA, restoreStackPage_flag]
@[simp] theorem restoreStackPage_wXY (s : State) : s.restoreStackPage.wXY = s.wXY := by simp only [State.wXY, restoreStackPage_flag]
@[simp] theorem restoreStackPage_kindAt (s : State) (q : Addr) : s.restoreStackPage.kindAt q = s.kindAt q := by simp only [State.kindAt, restoreStackPage_platform]
@[simp] theorem restoreStackPage_readByte (s : State) (use : Access) (q : Addr) : s.restoreStackPage.readByte use q = s.readByte use q := by
  simp only [State.readByte, restoreStackPage_kindAt, restoreStackPage_mem, restoreStackPage_drawCount]

/-! ### pushTrapFrame -/

@[simp] theorem pushTrapFrame_c (s : State) (k : TrapCause) (ret : Word) : (s.pushTrapFrame k ret).c = s.c := by
  by_cases h : s.e = true <;> simp [State.pushTrapFrame, h]
@[simp] theorem pushTrapFrame_x (s : State) (k : TrapCause) (ret : Word) : (s.pushTrapFrame k ret).x = s.x := by
  by_cases h : s.e = true <;> simp [State.pushTrapFrame, h]
@[simp] theorem pushTrapFrame_y (s : State) (k : TrapCause) (ret : Word) : (s.pushTrapFrame k ret).y = s.y := by
  by_cases h : s.e = true <;> simp [State.pushTrapFrame, h]
@[simp] theorem pushTrapFrame_d (s : State) (k : TrapCause) (ret : Word) : (s.pushTrapFrame k ret).d = s.d := by
  by_cases h : s.e = true <;> simp [State.pushTrapFrame, h]
@[simp] theorem pushTrapFrame_dbr (s : State) (k : TrapCause) (ret : Word) : (s.pushTrapFrame k ret).dbr = s.dbr := by
  by_cases h : s.e = true <;> simp [State.pushTrapFrame, h]
@[simp] theorem pushTrapFrame_pbr (s : State) (k : TrapCause) (ret : Word) : (s.pushTrapFrame k ret).pbr = s.pbr := by
  by_cases h : s.e = true <;> simp [State.pushTrapFrame, h]
@[simp] theorem pushTrapFrame_pc (s : State) (k : TrapCause) (ret : Word) : (s.pushTrapFrame k ret).pc = s.pc := by
  by_cases h : s.e = true <;> simp [State.pushTrapFrame, h]
@[simp] theorem pushTrapFrame_p (s : State) (k : TrapCause) (ret : Word) : (s.pushTrapFrame k ret).p = s.p := by
  by_cases h : s.e = true <;> simp [State.pushTrapFrame, h]
@[simp] theorem pushTrapFrame_e (s : State) (k : TrapCause) (ret : Word) : (s.pushTrapFrame k ret).e = s.e := by
  by_cases h : s.e = true <;> simp [State.pushTrapFrame, h]
@[simp] theorem pushTrapFrame_run (s : State) (k : TrapCause) (ret : Word) : (s.pushTrapFrame k ret).run = s.run := by
  by_cases h : s.e = true <;> simp [State.pushTrapFrame, h]
@[simp] theorem pushTrapFrame_nmiPending (s : State) (k : TrapCause) (ret : Word) : (s.pushTrapFrame k ret).nmiPending = s.nmiPending := by
  by_cases h : s.e = true <;> simp [State.pushTrapFrame, h]
@[simp] theorem pushTrapFrame_platform (s : State) (k : TrapCause) (ret : Word) : (s.pushTrapFrame k ret).platform = s.platform := by
  by_cases h : s.e = true <;> simp [State.pushTrapFrame, h]
@[simp] theorem pushTrapFrame_inputs (s : State) (k : TrapCause) (ret : Word) : (s.pushTrapFrame k ret).inputs = s.inputs := by
  by_cases h : s.e = true <;> simp [State.pushTrapFrame, h]
@[simp] theorem pushTrapFrame_drawCount (s : State) (k : TrapCause) (ret : Word) : (s.pushTrapFrame k ret).drawCount = s.drawCount := by
  by_cases h : s.e = true <;> simp [State.pushTrapFrame, h]
@[simp] theorem pushTrapFrame_flag (s : State) (k : TrapCause) (ret : Word) (g : Flag) : (s.pushTrapFrame k ret).flag g = s.flag g := by simp only [State.flag, pushTrapFrame_p]
@[simp] theorem pushTrapFrame_wA (s : State) (k : TrapCause) (ret : Word) : (s.pushTrapFrame k ret).wA = s.wA := by simp only [State.wA, pushTrapFrame_flag]
@[simp] theorem pushTrapFrame_wXY (s : State) (k : TrapCause) (ret : Word) : (s.pushTrapFrame k ret).wXY = s.wXY := by simp only [State.wXY, pushTrapFrame_flag]
@[simp] theorem pushTrapFrame_kindAt (s : State) (k : TrapCause) (ret : Word) (q : Addr) : (s.pushTrapFrame k ret).kindAt q = s.kindAt q := by simp only [State.kindAt, pushTrapFrame_platform]

/-! ### takeTrap -/

@[simp] theorem takeTrap_c (s : State) (k : TrapCause) (ret : Word) : (s.takeTrap k ret).c = s.c := by simp [State.takeTrap]
@[simp] theorem takeTrap_x (s : State) (k : TrapCause) (ret : Word) : (s.takeTrap k ret).x = s.x := by simp [State.takeTrap]
@[simp] theorem takeTrap_y (s : State) (k : TrapCause) (ret : Word) : (s.takeTrap k ret).y = s.y := by simp [State.takeTrap]
@[simp] theorem takeTrap_d (s : State) (k : TrapCause) (ret : Word) : (s.takeTrap k ret).d = s.d := by simp [State.takeTrap]
@[simp] theorem takeTrap_dbr (s : State) (k : TrapCause) (ret : Word) : (s.takeTrap k ret).dbr = s.dbr := by simp [State.takeTrap]
@[simp] theorem takeTrap_e (s : State) (k : TrapCause) (ret : Word) : (s.takeTrap k ret).e = s.e := by simp [State.takeTrap]
@[simp] theorem takeTrap_run (s : State) (k : TrapCause) (ret : Word) : (s.takeTrap k ret).run = s.run := by simp [State.takeTrap]
@[simp] theorem takeTrap_nmiPending (s : State) (k : TrapCause) (ret : Word) : (s.takeTrap k ret).nmiPending = s.nmiPending := by simp [State.takeTrap]
@[simp] theorem takeTrap_platform (s : State) (k : TrapCause) (ret : Word) : (s.takeTrap k ret).platform = s.platform := by simp [State.takeTrap]
@[simp] theorem takeTrap_inputs (s : State) (k : TrapCause) (ret : Word) : (s.takeTrap k ret).inputs = s.inputs := by simp [State.takeTrap]
@[simp] theorem takeTrap_drawCount (s : State) (k : TrapCause) (ret : Word) : (s.takeTrap k ret).drawCount = s.drawCount := by simp [State.takeTrap]
@[simp] theorem takeTrap_kindAt (s : State) (k : TrapCause) (ret : Word) (q : Addr) : (s.takeTrap k ret).kindAt q = s.kindAt q := by simp only [State.kindAt, takeTrap_platform]

/-! ### returnFromTrap -/

@[simp] theorem returnFromTrap_c (s : State) : s.returnFromTrap.c = s.c := by
  by_cases h : s.e = true <;> simp [State.returnFromTrap, h]
@[simp] theorem returnFromTrap_d (s : State) : s.returnFromTrap.d = s.d := by
  by_cases h : s.e = true <;> simp [State.returnFromTrap, h]
@[simp] theorem returnFromTrap_dbr (s : State) : s.returnFromTrap.dbr = s.dbr := by
  by_cases h : s.e = true <;> simp [State.returnFromTrap, h]
@[simp] theorem returnFromTrap_e (s : State) : s.returnFromTrap.e = s.e := by
  by_cases h : s.e = true <;> simp [State.returnFromTrap, h]
@[simp] theorem returnFromTrap_run (s : State) : s.returnFromTrap.run = s.run := by
  by_cases h : s.e = true <;> simp [State.returnFromTrap, h]
@[simp] theorem returnFromTrap_nmiPending (s : State) : s.returnFromTrap.nmiPending = s.nmiPending := by
  by_cases h : s.e = true <;> simp [State.returnFromTrap, h]
@[simp] theorem returnFromTrap_mem (s : State) : s.returnFromTrap.mem = s.mem := by
  by_cases h : s.e = true <;> simp [State.returnFromTrap, h]
@[simp] theorem returnFromTrap_platform (s : State) : s.returnFromTrap.platform = s.platform := by
  by_cases h : s.e = true <;> simp [State.returnFromTrap, h]
@[simp] theorem returnFromTrap_inputs (s : State) : s.returnFromTrap.inputs = s.inputs := by
  by_cases h : s.e = true <;> simp [State.returnFromTrap, h]
@[simp] theorem returnFromTrap_drawCount (s : State) : s.returnFromTrap.drawCount = s.drawCount := by
  by_cases h : s.e = true <;> simp [State.returnFromTrap, h]
@[simp] theorem returnFromTrap_kindAt (s : State) (q : Addr) : s.returnFromTrap.kindAt q = s.kindAt q := by simp only [State.kindAt, returnFromTrap_platform]
@[simp] theorem returnFromTrap_readByte (s : State) (use : Access) (q : Addr) : s.returnFromTrap.readByte use q = s.readByte use q := by
  simp only [State.readByte, returnFromTrap_kindAt, returnFromTrap_mem, returnFromTrap_drawCount]

/-! ### resetSequence -/

@[simp] theorem resetSequence_c (s : State) : s.resetSequence.c = s.c := by simp [State.resetSequence]
@[simp] theorem resetSequence_mem (s : State) : s.resetSequence.mem = s.mem := by simp [State.resetSequence]
@[simp] theorem resetSequence_platform (s : State) : s.resetSequence.platform = s.platform := by simp [State.resetSequence]
@[simp] theorem resetSequence_inputs (s : State) : s.resetSequence.inputs = s.inputs := by simp [State.resetSequence]
@[simp] theorem resetSequence_drawCount (s : State) : s.resetSequence.drawCount = s.drawCount := by simp [State.resetSequence]
@[simp] theorem resetSequence_kindAt (s : State) (q : Addr) : s.resetSequence.kindAt q = s.kindAt q := by simp only [State.kindAt, resetSequence_platform]
@[simp] theorem resetSequence_readByte (s : State) (use : Access) (q : Addr) : s.resetSequence.readByte use q = s.readByte use q := by
  simp only [State.readByte, resetSequence_kindAt, resetSequence_mem, resetSequence_drawCount]

/-! ### targetWrite -/

@[simp] theorem targetWrite_x (t : Target) (s : State) (w : Width) (v : BitVec w.bits) : (t.write s w v).x = s.x := by cases t <;> simp [Target.write]
@[simp] theorem targetWrite_y (t : Target) (s : State) (w : Width) (v : BitVec w.bits) : (t.write s w v).y = s.y := by cases t <;> simp [Target.write]
@[simp] theorem targetWrite_sp (t : Target) (s : State) (w : Width) (v : BitVec w.bits) : (t.write s w v).sp = s.sp := by cases t <;> simp [Target.write]
@[simp] theorem targetWrite_d (t : Target) (s : State) (w : Width) (v : BitVec w.bits) : (t.write s w v).d = s.d := by cases t <;> simp [Target.write]
@[simp] theorem targetWrite_dbr (t : Target) (s : State) (w : Width) (v : BitVec w.bits) : (t.write s w v).dbr = s.dbr := by cases t <;> simp [Target.write]
@[simp] theorem targetWrite_pbr (t : Target) (s : State) (w : Width) (v : BitVec w.bits) : (t.write s w v).pbr = s.pbr := by cases t <;> simp [Target.write]
@[simp] theorem targetWrite_pc (t : Target) (s : State) (w : Width) (v : BitVec w.bits) : (t.write s w v).pc = s.pc := by cases t <;> simp [Target.write]
@[simp] theorem targetWrite_p (t : Target) (s : State) (w : Width) (v : BitVec w.bits) : (t.write s w v).p = s.p := by cases t <;> simp [Target.write]
@[simp] theorem targetWrite_e (t : Target) (s : State) (w : Width) (v : BitVec w.bits) : (t.write s w v).e = s.e := by cases t <;> simp [Target.write]
@[simp] theorem targetWrite_run (t : Target) (s : State) (w : Width) (v : BitVec w.bits) : (t.write s w v).run = s.run := by cases t <;> simp [Target.write]
@[simp] theorem targetWrite_nmiPending (t : Target) (s : State) (w : Width) (v : BitVec w.bits) : (t.write s w v).nmiPending = s.nmiPending := by cases t <;> simp [Target.write]
@[simp] theorem targetWrite_platform (t : Target) (s : State) (w : Width) (v : BitVec w.bits) : (t.write s w v).platform = s.platform := by cases t <;> simp [Target.write]
@[simp] theorem targetWrite_inputs (t : Target) (s : State) (w : Width) (v : BitVec w.bits) : (t.write s w v).inputs = s.inputs := by cases t <;> simp [Target.write]
@[simp] theorem targetWrite_drawCount (t : Target) (s : State) (w : Width) (v : BitVec w.bits) : (t.write s w v).drawCount = s.drawCount := by cases t <;> simp [Target.write]
@[simp] theorem targetWrite_flag (t : Target) (s : State) (w : Width) (v : BitVec w.bits) (g : Flag) : (t.write s w v).flag g = s.flag g := by simp only [State.flag, targetWrite_p]
@[simp] theorem targetWrite_wA (t : Target) (s : State) (w : Width) (v : BitVec w.bits) : (t.write s w v).wA = s.wA := by simp only [State.wA, targetWrite_flag]
@[simp] theorem targetWrite_wXY (t : Target) (s : State) (w : Width) (v : BitVec w.bits) : (t.write s w v).wXY = s.wXY := by simp only [State.wXY, targetWrite_flag]
@[simp] theorem targetWrite_kindAt (t : Target) (s : State) (w : Width) (v : BitVec w.bits) (q : Addr) : (t.write s w v).kindAt q = s.kindAt q := by simp only [State.kindAt, targetWrite_platform]

/-! ### beginStep -/

@[simp] theorem beginStep_c (s : State) : s.beginStep.c = s.c := rfl
@[simp] theorem beginStep_x (s : State) : s.beginStep.x = s.x := rfl
@[simp] theorem beginStep_y (s : State) : s.beginStep.y = s.y := rfl
@[simp] theorem beginStep_sp (s : State) : s.beginStep.sp = s.sp := rfl
@[simp] theorem beginStep_d (s : State) : s.beginStep.d = s.d := rfl
@[simp] theorem beginStep_dbr (s : State) : s.beginStep.dbr = s.dbr := rfl
@[simp] theorem beginStep_pbr (s : State) : s.beginStep.pbr = s.pbr := rfl
@[simp] theorem beginStep_pc (s : State) : s.beginStep.pc = s.pc := rfl
@[simp] theorem beginStep_p (s : State) : s.beginStep.p = s.p := rfl
@[simp] theorem beginStep_e (s : State) : s.beginStep.e = s.e := rfl
@[simp] theorem beginStep_run (s : State) : s.beginStep.run = s.run := rfl
@[simp] theorem beginStep_nmiPending (s : State) : s.beginStep.nmiPending = s.nmiPending := rfl
@[simp] theorem beginStep_mem (s : State) : s.beginStep.mem = s.mem := rfl
@[simp] theorem beginStep_platform (s : State) : s.beginStep.platform = s.platform := rfl
@[simp] theorem beginStep_flag (s : State) (g : Flag) : s.beginStep.flag g = s.flag g := by simp only [State.flag, beginStep_p]
@[simp] theorem beginStep_wA (s : State) : s.beginStep.wA = s.wA := by simp only [State.wA, beginStep_flag]
@[simp] theorem beginStep_wXY (s : State) : s.beginStep.wXY = s.wXY := by simp only [State.wXY, beginStep_flag]
@[simp] theorem beginStep_kindAt (s : State) (q : Addr) : s.beginStep.kindAt q = s.kindAt q := by simp only [State.kindAt, beginStep_platform]

/-! ### latchNmi -/

@[simp] theorem latchNmi_c (s : State) (i : Inputs) : (s.latchNmi i).c = s.c := rfl
@[simp] theorem latchNmi_x (s : State) (i : Inputs) : (s.latchNmi i).x = s.x := rfl
@[simp] theorem latchNmi_y (s : State) (i : Inputs) : (s.latchNmi i).y = s.y := rfl
@[simp] theorem latchNmi_sp (s : State) (i : Inputs) : (s.latchNmi i).sp = s.sp := rfl
@[simp] theorem latchNmi_d (s : State) (i : Inputs) : (s.latchNmi i).d = s.d := rfl
@[simp] theorem latchNmi_dbr (s : State) (i : Inputs) : (s.latchNmi i).dbr = s.dbr := rfl
@[simp] theorem latchNmi_pbr (s : State) (i : Inputs) : (s.latchNmi i).pbr = s.pbr := rfl
@[simp] theorem latchNmi_pc (s : State) (i : Inputs) : (s.latchNmi i).pc = s.pc := rfl
@[simp] theorem latchNmi_p (s : State) (i : Inputs) : (s.latchNmi i).p = s.p := rfl
@[simp] theorem latchNmi_e (s : State) (i : Inputs) : (s.latchNmi i).e = s.e := rfl
@[simp] theorem latchNmi_run (s : State) (i : Inputs) : (s.latchNmi i).run = s.run := rfl
@[simp] theorem latchNmi_mem (s : State) (i : Inputs) : (s.latchNmi i).mem = s.mem := rfl
@[simp] theorem latchNmi_platform (s : State) (i : Inputs) : (s.latchNmi i).platform = s.platform := rfl
@[simp] theorem latchNmi_inputs (s : State) (i : Inputs) : (s.latchNmi i).inputs = s.inputs := rfl
@[simp] theorem latchNmi_drawCount (s : State) (i : Inputs) : (s.latchNmi i).drawCount = s.drawCount := rfl
@[simp] theorem latchNmi_flag (s : State) (i : Inputs) (g : Flag) : (s.latchNmi i).flag g = s.flag g := by simp only [State.flag, latchNmi_p]
@[simp] theorem latchNmi_wA (s : State) (i : Inputs) : (s.latchNmi i).wA = s.wA := by simp only [State.wA, latchNmi_flag]
@[simp] theorem latchNmi_wXY (s : State) (i : Inputs) : (s.latchNmi i).wXY = s.wXY := by simp only [State.wXY, latchNmi_flag]
@[simp] theorem latchNmi_kindAt (s : State) (i : Inputs) (q : Addr) : (s.latchNmi i).kindAt q = s.kindAt q := by simp only [State.kindAt, latchNmi_platform]
@[simp] theorem latchNmi_readByte (s : State) (i : Inputs) (use : Access) (q : Addr) : (s.latchNmi i).readByte use q = s.readByte use q := by
  simp only [State.readByte, latchNmi_kindAt, latchNmi_mem, latchNmi_drawCount]

end Sys2Proof.Machine
end

