-- ==== Sys2Proof/Laws/Flags.lean ====
section
/-! SUPPORT. The laws of the flags of P (R24), and what every flag operation leaves in them. -/

namespace Sys2Proof.Machine

/-- Writing a flag changes that flag and no other. -/
theorem flagOf_withFlag (p : Byte) (f g : Flag) (b : Bool) :
    flagOf (withFlag p f b) g = if g = f then b else flagOf p g := by
  cases b <;> cases f <;> cases g <;> simp [flagOf, withFlag, Flag.mask, Flag.bit]

/-- P is its eight flags. -/
theorem flags_ext {p q : Byte} (h : ∀ f : Flag, flagOf p f = flagOf q f) : p = q := by
  apply BitVec.eq_of_getLsbD_eq
  intro i hi
  have h0 := h .c; have h1 := h .z; have h2 := h .i; have h3 := h .d
  have h4 := h .x; have h5 := h .m; have h6 := h .v; have h7 := h .n
  simp only [flagOf, Flag.bit] at h0 h1 h2 h3 h4 h5 h6 h7
  interval_cases i <;> assumption

@[simp] theorem setFlag_p (s : State) (f : Flag) (b : Bool) : (s.setFlag f b).p = withFlag s.p f b := rfl

@[simp] theorem setFlag_flag (s : State) (f g : Flag) (b : Bool) :
    (s.setFlag f b).flag g = if g = f then b else s.flag g := flagOf_withFlag s.p f g b

/-- n and z after `SetNZ`, every other flag kept. -/
@[simp] theorem setNZ_flag {w : Nat} (s : State) (v : BitVec w) (g : Flag) :
    (s.setNZ v).flag g = if g = .z then v == 0#w else if g = .n then v.msb else s.flag g := by
  simp only [State.setNZ, setFlag_flag]

/-- n, v, z, c after an addition or subtraction, every other flag kept. -/
@[simp] theorem setSumFlags_flag {w : Nat} (s : State) (o : SumOutcome w) (g : Flag) :
    (s.setSumFlags o).flag g =
      if g = .c then o.c else if g = .z then o.z else if g = .v then o.v else if g = .n then o.n else s.flag g := by
  simp only [State.setSumFlags, setFlag_flag]

/-- n, z, c after a comparison, every other flag kept (R207). -/
@[simp] theorem compareFlags_flag {w : Nat} (s : State) (r v : BitVec w) (g : Flag) :
    (s.compareFlags r v).flag g =
      if g = .z then (r - v == 0#w) else if g = .n then (r - v).msb
      else if g = .c then decide (v.toNat ≤ r.toNat) else s.flag g := by
  simp only [State.compareFlags, setNZ_flag, setFlag_flag]

/-- n, z, c after a shift or rotate, every other flag kept (R220 to R223). -/
@[simp] theorem setShiftFlags_flag {w : Nat} (s : State) (o : ShiftOutcome w) (g : Flag) :
    (s.setShiftFlags o).flag g =
      if g = .z then (o.value == 0#w) else if g = .n then o.value.msb else if g = .c then o.carry else s.flag g := by
  simp only [State.setShiftFlags, setNZ_flag, setFlag_flag]

theorem setNZ_wA {w : Nat} (s : State) (v : BitVec w) : (s.setNZ v).wA = s.wA := by simp [State.wA]
theorem setNZ_wXY {w : Nat} (s : State) (v : BitVec w) : (s.setNZ v).wXY = s.wXY := by simp [State.wXY]

/-- The flags of an update that writes P whole. -/
theorem flag_mk (s : State) (g : Flag) : s.flag g = flagOf s.p g := rfl

end Sys2Proof.Machine
end

