-- ==== Sys2Proof/Laws/Arith.lean ====
section
/-! SUPPORT. The sums, differences, decimal sums and shifts of Flags.lean as statements about numbers. -/

namespace Sys2Proof.Machine

theorem Width.bits_pos (w : Width) : 0 < w.bits := by cases w <;> decide

theorem Width.two_pow (w : Width) : 2 ^ w.bits = 16 ^ (w.bits / 4) := by cases w <;> rfl

/-- The binary sum of R183 modulo 2^w. -/
theorem binaryAdd_toNat {w : Nat} (a b : BitVec w) (carry : Bool) :
    (binaryAdd a b carry).value.toNat = (a.toNat + b.toNat + carry.toNat) % 2 ^ w := by
  simp [binaryAdd]

/-- The binary difference of R184 modulo 2^w, and its carry: no borrow. -/
theorem binarySub_toNat {w : Nat} (a b : BitVec w) (carry : Bool) :
    (binarySub a b carry).value.toNat = (a.toNat + 2 ^ w - b.toNat - (1 - carry.toNat)) % 2 ^ w ∧
      (binarySub a b carry).c = decide (b.toNat + (1 - carry.toNat) ≤ a.toNat) := by
  have ha := a.isLt
  have hb := b.isLt
  have hc : carry.toNat ≤ 1 := by cases carry <;> decide
  simp only [binarySub, binaryAdd, BitVec.toNat_not, BitVec.toNat_ofNat]
  refine ⟨?_, ?_⟩
  · congr 1
    omega
  · congr 1
    simp only [eq_iff_iff]
    omega

/-- The low `k` digits of a packed decimal number are 0 to 9, as a proposition. -/
def PackedDigits : Nat → Nat → Prop
  | 0, _ => True
  | k + 1, a => a % 16 ≤ 9 ∧ PackedDigits k (a / 16)

theorem decimalDigitsValid_iff (k a : Nat) : decimalDigitsValid k a = true ↔ PackedDigits k a := by
  induction k generalizing a with
  | zero => simp [decimalDigitsValid, PackedDigits]
  | succ k ih => simp [decimalDigitsValid, PackedDigits, ih]

/-- The number that the low `k` digits of a packed decimal number stand for. -/
def packedValue : Nat → Nat → Nat
  | 0, _ => 0
  | k + 1, a => a % 16 + 10 * packedValue k (a / 16)

/-- The digit-wise sum of R185: digits 0 to 9, at most `k` of them, the decimal sum with its carry. -/
theorem decimalAddDigits_spec (k a b c : Nat) (ha : PackedDigits k a) (hb : PackedDigits k b) (hc : c ≤ 1) :
    PackedDigits k (decimalAddDigits k a b c).1 ∧ (decimalAddDigits k a b c).1 < 16 ^ k ∧
      (decimalAddDigits k a b c).2 ≤ 1 ∧
      packedValue k (decimalAddDigits k a b c).1 + 10 ^ k * (decimalAddDigits k a b c).2 =
        packedValue k a + packedValue k b + c := by
  induction k generalizing a b c with
  | zero => simp [decimalAddDigits, PackedDigits, packedValue, hc]
  | succ k ih =>
    obtain ⟨ha1, ha2⟩ := ha
    obtain ⟨hb1, hb2⟩ := hb
    simp only [decimalAddDigits, packedValue, PackedDigits]
    have hc' : (if 9 < a % 16 + b % 16 + c then 1 else 0) ≤ 1 := by split <;> omega
    obtain ⟨i1, i2, i3, i4⟩ := ih (a / 16) (b / 16) _ ha2 hb2 hc'
    generalize decimalAddDigits k (a / 16) (b / 16) (if 9 < a % 16 + b % 16 + c then 1 else 0) = r at *
    generalize hd : (if 9 < a % 16 + b % 16 + c then a % 16 + b % 16 + c - 10 else a % 16 + b % 16 + c) = d at *
    have hd9 : d ≤ 9 := by split at hd <;> omega
    rw [show (d + 16 * r.1) / 16 = r.1 by omega, show (d + 16 * r.1) % 16 = d by omega, pow_succ, pow_succ]
    refine ⟨⟨hd9, i1⟩, by omega, i3, ?_⟩
    rw [show 10 ^ k * 10 * r.2 = 10 * (10 ^ k * r.2) by ring]
    generalize 10 ^ k * r.2 = q at *
    split at hd <;> split at i4 <;> omega

/-- The digit-wise difference of R185: digits 0 to 9, at most `k` of them, the decimal difference with its borrow. -/
theorem decimalSubDigits_spec (k a b c : Nat) (ha : PackedDigits k a) (hb : PackedDigits k b) (hc : c ≤ 1) :
    PackedDigits k (decimalSubDigits k a b c).1 ∧ (decimalSubDigits k a b c).1 < 16 ^ k ∧
      (decimalSubDigits k a b c).2 ≤ 1 ∧
      packedValue k (decimalSubDigits k a b c).1 + packedValue k b + c =
        packedValue k a + 10 ^ k * (decimalSubDigits k a b c).2 := by
  induction k generalizing a b c with
  | zero => simp [decimalSubDigits, PackedDigits, packedValue, hc]
  | succ k ih =>
    obtain ⟨ha1, ha2⟩ := ha
    obtain ⟨hb1, hb2⟩ := hb
    simp only [decimalSubDigits, packedValue, PackedDigits]
    generalize ht : (((a % 16 : Nat) : Int) - ((b % 16 : Nat) : Int) - (c : Int)) = t at *
    have hc' : (if t < 0 then 1 else 0) ≤ 1 := by split <;> omega
    obtain ⟨i1, i2, i3, i4⟩ := ih (a / 16) (b / 16) _ ha2 hb2 hc'
    generalize decimalSubDigits k (a / 16) (b / 16) (if t < 0 then 1 else 0) = r at *
    generalize hd : (if t < 0 then (t + 10).toNat else t.toNat) = d at *
    have hd9 : d ≤ 9 := by split at hd <;> omega
    rw [show (d + 16 * r.1) / 16 = r.1 by omega, show (d + 16 * r.1) % 16 = d by omega, pow_succ, pow_succ]
    refine ⟨⟨hd9, i1⟩, by omega, i3, ?_⟩
    rw [show 10 ^ k * 10 * r.2 = 10 * (10 ^ k * r.2) by ring]
    generalize 10 ^ k * r.2 = q at *
    split at hd <;> split at i4 <;> omega

/-- LSR and ROR take out bit 0, ASL and ROL the top bit (R220 to R223). -/
theorem shift_carries {w : Nat} (t : BitVec w) (carry : Bool) :
    (shiftRight t).carry = decide (t.toNat % 2 = 1) ∧ (rotateRight t carry).carry = decide (t.toNat % 2 = 1) ∧
      (shiftLeft t).carry = decide (2 ^ (w - 1) ≤ t.toNat) ∧
      (rotateLeft t carry).carry = decide (2 ^ (w - 1) ≤ t.toNat) := by
  refine ⟨?_, ?_, ?_, ?_⟩
  · simp [shiftRight, BitVec.getLsbD, Nat.testBit_zero]
  · simp [rotateRight, BitVec.getLsbD, Nat.testBit_zero]
  · simp [shiftLeft, BitVec.msb_eq_decide]
  · simp [rotateLeft, BitVec.msb_eq_decide]

/-- LSR halves, ASL doubles modulo 2^w (R220, R221). -/
theorem shift_values {w : Nat} (t : BitVec w) :
    (shiftRight t).value.toNat = t.toNat / 2 ∧ (shiftLeft t).value.toNat = 2 * t.toNat % 2 ^ w := by
  refine ⟨?_, ?_⟩
  · simp [shiftRight, Nat.shiftRight_eq_div_pow]
  · simp [shiftLeft, Nat.shiftLeft_eq, Nat.mul_comm]

end Sys2Proof.Machine
end

