-- ==== Sys2Proof/Laws/Bits.lean ====
section
/-! SUPPORT. The laws of the bit-field helpers. -/

namespace Sys2Proof.Machine

theorem toNat_joinWord (h l : Byte) : (joinWord h l).toNat = h.toNat * 256 + l.toNat := by
  simp only [joinWord, BitVec.toNat_append]
  rw [Nat.shiftLeft_eq, Nat.mul_comm, ← Nat.two_pow_add_eq_or_of_lt l.isLt]

theorem toNat_bankAddr (b : Byte) (o : Word) : (bankAddr b o).toNat = b.toNat * 65536 + o.toNat := by
  simp only [bankAddr, BitVec.toNat_append]
  rw [Nat.shiftLeft_eq, Nat.mul_comm, ← Nat.two_pow_add_eq_or_of_lt o.isLt]

theorem toNat_bank0 (o : Word) : (bank0 o).toNat = o.toNat := by
  simp [bank0, toNat_bankAddr]

theorem toNat_lo (v : Word) : (lo v).toNat = v.toNat % 256 := by
  simp [lo, BitVec.extractLsb'_toNat]

theorem toNat_hi (v : Word) : (hi v).toNat = v.toNat / 256 := by
  have := v.isLt
  simp only [hi, BitVec.extractLsb'_toNat, Nat.shiftRight_eq_div_pow]
  omega

theorem toNat_zext16 (v : Byte) : (zext16 v).toNat = v.toNat := by
  have := v.isLt
  simp only [zext16, BitVec.toNat_setWidth]
  omega

theorem toNat_addrBank (a : Addr) : (addrBank a).toNat = a.toNat / 65536 := by
  have := a.isLt
  simp only [addrBank, BitVec.extractLsb'_toNat, Nat.shiftRight_eq_div_pow]
  omega

theorem toNat_addrOffset (a : Addr) : (addrOffset a).toNat = a.toNat % 65536 := by
  simp [addrOffset, BitVec.extractLsb'_toNat]

@[simp] theorem lo_joinWord (h l : Byte) : lo (joinWord h l) = l := by
  apply BitVec.eq_of_toNat_eq
  have := l.isLt
  rw [toNat_lo, toNat_joinWord]
  omega

@[simp] theorem hi_joinWord (h l : Byte) : hi (joinWord h l) = h := by
  apply BitVec.eq_of_toNat_eq
  have := l.isLt
  rw [toNat_hi, toNat_joinWord]
  omega

@[simp] theorem joinWord_hi_lo (v : Word) : joinWord (hi v) (lo v) = v := by
  apply BitVec.eq_of_toNat_eq
  rw [toNat_joinWord, toNat_lo, toNat_hi]
  omega

@[simp] theorem lo_zext16 (v : Byte) : lo (zext16 v) = v := by
  apply BitVec.eq_of_toNat_eq
  have := v.isLt
  rw [toNat_lo, toNat_zext16]
  omega

@[simp] theorem hi_zext16 (v : Byte) : hi (zext16 v) = 0x00#8 := by
  apply BitVec.eq_of_toNat_eq
  have := v.isLt
  rw [toNat_hi, toNat_zext16]
  simp
  omega

/-- A word whose high byte is zero is its low byte extended. -/
theorem zext16_lo_of_hi_zero {v : Word} (h : hi v = 0x00#8) : zext16 (lo v) = v := by
  apply BitVec.eq_of_toNat_eq
  have h1 := congrArg BitVec.toNat h
  rw [toNat_hi] at h1
  simp at h1
  rw [toNat_zext16, toNat_lo]
  omega

@[simp] theorem addrOffset_bankAddr (b : Byte) (o : Word) : addrOffset (bankAddr b o) = o := by
  apply BitVec.eq_of_toNat_eq
  have := o.isLt
  rw [toNat_addrOffset, toNat_bankAddr]
  omega

@[simp] theorem addrBank_bankAddr (b : Byte) (o : Word) : addrBank (bankAddr b o) = b := by
  apply BitVec.eq_of_toNat_eq
  have := o.isLt
  rw [toNat_addrBank, toNat_bankAddr]
  omega

@[simp] theorem bankAddr_addrBank_addrOffset (a : Addr) : bankAddr (addrBank a) (addrOffset a) = a := by
  apply BitVec.eq_of_toNat_eq
  rw [toNat_bankAddr, toNat_addrBank, toNat_addrOffset]
  omega

theorem bankAddr_inj {b c : Byte} {o q : Word} (h : bankAddr b o = bankAddr c q) : b = c ∧ o = q :=
  ⟨by simpa using congrArg addrBank h, by simpa using congrArg addrOffset h⟩

@[simp] theorem bank0_inj (o q : Word) : bank0 o = bank0 q ↔ o = q :=
  ⟨fun h => (bankAddr_inj h).2, fun h => by rw [h]⟩

@[simp] theorem narrow_w16 (v : Word) : narrow .w16 v = v := by simp [narrow]

@[simp] theorem narrow_w8 (v : Word) : narrow .w8 v = zext16 (lo v) := by
  apply BitVec.eq_of_toNat_eq
  rw [toNat_zext16, toNat_lo]
  simp only [narrow, BitVec.toNat_setWidth, Width.bits]
  omega

/-- The low byte of a word is the word cut to 8 bits. -/
theorem setWidth8_eq_lo (v : Word) : v.setWidth 8 = lo v := by
  apply BitVec.eq_of_toNat_eq
  rw [toNat_lo]
  simp

end Sys2Proof.Machine
end

