-- ==== Sys2Proof/Laws/Memory.lean ====
section
/-! SUPPORT. The laws of memory: a read after a write, every other address kept, the canonical form kept. -/

namespace Sys2Proof.Machine

theorem cellsRead_insert (l : List Host.Cell) (a b : Nat) (v : Byte) :
    cellsRead (cellsInsert l a v) b = if a = b then v else cellsRead l b := by
  induction l with
  | nil => simp [cellsInsert, cellsRead]
  | cons h rest ih =>
    obtain ⟨k, x⟩ := h
    unfold cellsInsert
    split
    · simp only [cellsRead, ih]; split <;> split <;> first | rfl | omega
    · split
      · subst_vars; simp only [cellsRead]; split <;> rfl
      · simp only [cellsRead]

theorem cellsRead_erase (l : List Host.Cell) (a b : Nat) :
    cellsRead (cellsErase l a) b = if a = b then Config.unwrittenByte else cellsRead l b := by
  induction l with
  | nil => simp [cellsErase, cellsRead]
  | cons h rest ih =>
    obtain ⟨k, x⟩ := h
    unfold cellsErase
    split
    · simp only [cellsRead, ih]; split <;> [rfl; split <;> first | rfl | omega]
    · simp only [cellsRead, ih]; split <;> split <;> first | rfl | omega

/-- A read after a write: the byte written at that address, the old byte at every other. -/
theorem Memory.read_write (m : Memory) (a b : Nat) (v : Byte) :
    (m.write a v).read b = if a = b then v else m.read b := by
  unfold Memory.write Memory.read
  split <;> rename_i h
  · simp only [cellsRead_erase]; split <;> simp [h]
  · simp only [cellsRead_insert]

theorem cellsWf_weaken {n m : Nat} {l : List Host.Cell} (h : cellsWf n l = true) (hm : m ≤ n) :
    cellsWf m l = true := by
  cases l with
  | nil => rfl
  | cons c rest =>
    simp only [cellsWf, Bool.and_eq_true, decide_eq_true_eq] at h ⊢
    exact ⟨⟨⟨by omega, h.1.1.2⟩, h.1.2⟩, h.2⟩

theorem cellsWf_insert {n a : Nat} {v : Byte} {l : List Host.Cell} (h : cellsWf n l = true) (hn : n ≤ a)
    (ha : a < 2 ^ 24) (hv : v ≠ Config.unwrittenByte) : cellsWf n (cellsInsert l a v) = true := by
  induction l generalizing n with
  | nil => simp [cellsInsert, cellsWf, hn, hv, show a < 16777216 from ha]
  | cons c rest ih =>
    obtain ⟨k, x⟩ := c
    simp only [cellsWf, Bool.and_eq_true, decide_eq_true_eq] at h
    unfold cellsInsert
    split
    · simp only [cellsWf, Bool.and_eq_true, decide_eq_true_eq]
      exact ⟨h.1, ih h.2 (by omega)⟩
    · split
      · simp only [cellsWf, Bool.and_eq_true, decide_eq_true_eq]
        exact ⟨⟨⟨hn, ha⟩, by simpa using hv⟩, cellsWf_weaken h.2 (by omega)⟩
      · simp only [cellsWf, Bool.and_eq_true, decide_eq_true_eq]
        exact ⟨⟨⟨hn, ha⟩, by simpa using hv⟩, ⟨⟨by omega, h.1.1.2⟩, h.1.2⟩, h.2⟩

theorem cellsWf_erase {n a : Nat} {l : List Host.Cell} (h : cellsWf n l = true) :
    cellsWf n (cellsErase l a) = true := by
  induction l generalizing n with
  | nil => rfl
  | cons c rest ih =>
    obtain ⟨k, x⟩ := c
    simp only [cellsWf, Bool.and_eq_true, decide_eq_true_eq] at h
    unfold cellsErase
    split
    · exact cellsWf_weaken (ih h.2) (by omega)
    · simp only [cellsWf, Bool.and_eq_true, decide_eq_true_eq]
      exact ⟨h.1, ih h.2⟩

/-- A write keeps the canonical form. -/
theorem Memory.write_wf {m : Memory} (h : m.wf = true) (a : Nat) (ha : a < 2 ^ 24) (v : Byte) :
    (m.write a v).wf = true := by
  unfold Memory.write Memory.wf
  split <;> rename_i hv
  · exact cellsWf_erase h
  · exact cellsWf_insert h (Nat.zero_le a) ha hv

/-- The memory right after reset has the canonical form. -/
theorem reset_memory_wf : State.reset.mem.wf = true := rfl

/-- RAM and ROM answer every read alike, whatever it is for (R78: for them the unlisted reads are invisible). -/
theorem readByte_use {s : State} {a : Addr} (h : s.kindAt a ≠ .device) (use other : Access) :
    s.readByte use a = s.readByte other a := by
  unfold State.readByte
  split <;> first | rfl | contradiction

/-- A read of any other location is a free value of the step, of what the read is for, and of the address (R65, R78). -/
theorem readByte_device {s : State} {a : Addr} (h : s.kindAt a = .device) (use : Access) :
    s.readByte use a = Config.platformByte s.drawCount use a.toNat := by
  unfold State.readByte
  rw [h]

/-- A byte written to RAM is read back (R65). -/
@[simp] theorem readByte_writeByte_same (s : State) (use : Access) (a : Addr) (v : Byte) (h : s.kindAt a = .ram) :
    (s.writeByte a v).readByte use a = v := by
  simp only [State.readByte, writeByte_kindAt, h]
  simp [State.writeByte, h, Memory.read_write]

/-- A write leaves every other address as it was. -/
theorem readByte_writeByte_ne (s : State) (use : Access) (a b : Addr) (v : Byte) (h : a ≠ b) :
    (s.writeByte a v).readByte use b = s.readByte use b := by
  have hn : a.toNat ≠ b.toNat := fun e => h (BitVec.eq_of_toNat_eq e)
  simp only [State.readByte, writeByte_kindAt, writeByte_drawCount]
  unfold State.writeByte
  by_cases hk : s.kindAt a = .ram <;> simp [hk, Memory.read_write, hn]

/-- What stands outside RAM keeps its byte when it is written to (R70). -/
theorem readByte_writeByte_not_ram (s : State) (use : Access) (a b : Addr) (v : Byte) (h : s.kindAt a ≠ .ram) :
    (s.writeByte a v).readByte use b = s.readByte use b := by
  simp only [State.readByte, writeByte_kindAt, writeByte_drawCount]
  simp [State.writeByte, h]

theorem writeByte_mem_wf {s : State} (h : s.mem.wf = true) (a : Addr) (v : Byte) :
    (s.writeByte a v).mem.wf = true := by
  unfold State.writeByte
  dsimp only
  split
  · exact Memory.write_wf h _ a.isLt v
  · exact h

theorem writeOp_mem_wf {s : State} (h : s.mem.wf = true) (l : Loc) (w : Width) (v : BitVec w.bits) :
    (s.writeOp l w v).mem.wf = true := by
  cases w
  · exact writeByte_mem_wf h _ _
  · exact writeByte_mem_wf (writeByte_mem_wf h _ _) _ _

theorem writeBack_mem_wf {s : State} (h : s.mem.wf = true) (l : Loc) (w : Width) (v : BitVec w.bits) :
    (s.writeBack l w v).mem.wf = true := by
  cases w
  · exact writeByte_mem_wf h _ _
  · exact writeByte_mem_wf (writeByte_mem_wf h _ _) _ _

theorem push8_mem_wf {s : State} (h : s.mem.wf = true) (r : StackRule) (v : Byte) : (s.push8 r v).mem.wf = true :=
  writeByte_mem_wf h _ _

theorem push16_mem_wf {s : State} (h : s.mem.wf = true) (r : StackRule) (v : Word) : (s.push16 r v).mem.wf = true :=
  push8_mem_wf (push8_mem_wf h _ _) _ _

theorem pushReg_mem_wf {s : State} (h : s.mem.wf = true) (w : Width) (v : BitVec w.bits) :
    (s.pushReg w v).mem.wf = true := by
  cases w
  · exact push8_mem_wf h _ _
  · exact push16_mem_wf h _ _

theorem targetWrite_mem_wf {s : State} (h : s.mem.wf = true) (t : Target) (w : Width) (v : BitVec w.bits) :
    (t.write s w v).mem.wf = true := by
  cases t
  · exact h
  · exact writeBack_mem_wf h _ _ _

theorem pushTrapFrame_mem_wf {s : State} (h : s.mem.wf = true) (k : TrapCause) (ret : Word) :
    (s.pushTrapFrame k ret).mem.wf = true := by
  unfold State.pushTrapFrame
  split
  · exact push8_mem_wf (push16_mem_wf h _ _) _ _
  · exact push8_mem_wf (push16_mem_wf (push8_mem_wf h _ _) _ _) _ _

theorem takeTrap_mem_wf {s : State} (h : s.mem.wf = true) (k : TrapCause) (ret : Word) :
    (s.takeTrap k ret).mem.wf = true := pushTrapFrame_mem_wf h k ret

/-- The two bytes of a 16-bit access stand at different addresses (R66, R67). -/
theorem loc_second_ne (l : Loc) : l.second ≠ l.ea := by
  obtain ⟨ea, kind⟩ := l
  cases kind
  · simp only [Loc.second]
    intro h
    have := congrArg BitVec.toNat h
    simp at this
    omega
  · simp only [Loc.second]
    intro h
    have h1 := congrArg addrOffset h
    simp only [bank0, addrOffset_bankAddr] at h1
    have := congrArg BitVec.toNat h1
    simp at this
    omega

end Sys2Proof.Machine
end

