-- ==== Sys2Proof/Laws/Ops.lean ====
section
/-! SUPPORT. What each shared operation does, said once: a register read back after a write, where the stack moves, what a
push stores and a pull reads, what a trap saves and a return restores, and which operations keep the invariant. -/

namespace Sys2Proof.Machine

/-! ### Registers -/

@[simp] theorem setAcc_c8 (s : State) (v : Byte) : (s.setAcc .w8 v).c = joinWord (hi s.c) v := rfl
@[simp] theorem setAcc_c16 (s : State) (v : Word) : (s.setAcc .w16 v).c = v := rfl

theorem setWidth_joinWord (h l : Byte) : (joinWord h l).setWidth 8 = l := by
  rw [setWidth8_eq_lo, lo_joinWord]

/-- The accumulator reads back what was written at the same width. -/
theorem setAcc_acc (s : State) (w : Width) (v : BitVec w.bits) : (s.setAcc w v).acc w = v := by
  cases w
  · exact setWidth_joinWord _ _
  · exact BitVec.setWidth_eq _

theorem setX_x8 (s : State) (v : Byte) : (s.setX .w8 v).x = zext16 v := rfl
@[simp] theorem setX_x16 (s : State) (v : Word) : (s.setX .w16 v).x = v := BitVec.setWidth_eq _
theorem setY_y8 (s : State) (v : Byte) : (s.setY .w8 v).y = zext16 v := rfl
@[simp] theorem setY_y16 (s : State) (v : Word) : (s.setY .w16 v).y = v := BitVec.setWidth_eq _
@[simp] theorem setX_x (s : State) (w : Width) (v : BitVec w.bits) : (s.setX w v).x = v.setWidth 16 := rfl
@[simp] theorem setY_y (s : State) (w : Width) (v : BitVec w.bits) : (s.setY w v).y = v.setWidth 16 := rfl
@[simp] theorem setStackPointer_sp (s : State) (v : Word) :
    (s.setStackPointer v).sp = if s.e then joinWord (hi s.sp) (lo v) else v := rfl
@[simp] theorem advance_pc (s : State) (n : Nat) : (s.advance n).pc = s.pc + BitVec.ofNat 16 n := rfl
@[simp] theorem jump_pc (s : State) (t : Word) : (s.jump t).pc = t := rfl
@[simp] theorem jumpLong_pc (s : State) (t : Addr) : (s.jumpLong t).pc = addrOffset t := rfl
@[simp] theorem jumpLong_pbr (s : State) (t : Addr) : (s.jumpLong t).pbr = addrBank t := rfl

/-! ### Rule R325 -/

theorem enforceMode_p (s : State) : s.enforceMode.p = if s.e then s.p ||| 0x30#8 else s.p := rfl
@[simp] theorem enforceMode_sp (s : State) : s.enforceMode.sp = if s.e then joinWord 0x01#8 (lo s.sp) else s.sp := rfl

theorem flagOf_or_widths (p : Byte) (g : Flag) :
    flagOf (p ||| 0x30#8) g = (decide (g = .m ∨ g = .x) || flagOf p g) := by
  cases g <;> simp [flagOf, Flag.bit]

/-- Emulation mode forces m and x; every other flag, and every flag in native mode, is the one written (R325). -/
@[simp] theorem enforceMode_flag (s : State) (g : Flag) :
    s.enforceMode.flag g = ((s.e && decide (g = .m ∨ g = .x)) || s.flag g) := by
  simp only [State.flag, enforceMode_p]
  cases s.e <;> simp [flagOf_or_widths]

@[simp] theorem writeP_flag (s : State) (v : Byte) (g : Flag) :
    (s.writeP v).flag g = ((s.e && decide (g = .m ∨ g = .x)) || flagOf v g) := by
  simp only [State.writeP, enforceMode_flag]; rfl

/-- After rule R325, x = 1 leaves zero in XH and YH. -/
theorem enforceMode_narrow (s : State) (h : s.enforceMode.flag .x = true) :
    hi s.enforceMode.x = 0x00#8 ∧ hi s.enforceMode.y = 0x00#8 := by
  have h' : flagOf (if s.e then s.p ||| 0x30#8 else s.p) .x = true := h
  simp only [State.enforceMode]
  rw [if_pos h', if_pos h']
  simp

/-! ### The stack (R29, R311) -/

@[simp] theorem moveStack_sp (s : State) (r : StackRule) (k : Word) :
    (s.moveStack r k).sp = if s.e && r == .page then joinWord (hi s.sp) (lo (s.sp + k)) else s.sp + k := rfl

@[simp] theorem restoreStackPage_sp (s : State) :
    s.restoreStackPage.sp = if s.e then joinWord 0x01#8 (lo s.sp) else s.sp := rfl

/-- In native mode both rules move S over 16 bits. -/
theorem moveStack_native (s : State) (r : StackRule) (k : Word) (h : s.e = false) :
    s.moveStack r k = { s with sp := s.sp + k } := by
  simp [State.moveStack, h]

/-- The page rule never leaves the page. -/
theorem moveStack_page_hi (s : State) (k : Word) (h : s.e = true) : hi (s.moveStack .page k).sp = hi s.sp := by
  simp [h]

theorem restoreStackPage_hi (s : State) (h : s.e = true) : hi s.restoreStackPage.sp = 0x01#8 := by
  simp [h]

/-- A push stores its byte at S of bank 0. -/
theorem push8_readByte (s : State) (r : StackRule) (v : Byte) (use : Access) (a : Addr) :
    (s.push8 r v).readByte use a = (s.writeByte (bank0 s.sp) v).readByte use a := rfl

@[simp] theorem push8_sp (s : State) (r : StackRule) (v : Byte) : (s.push8 r v).sp = (s.moveStack r 0xFFFF#16).sp := rfl

/-- A pull reads the byte at S after S has moved up. -/
theorem pull8_value (s : State) (r : StackRule) : (s.pull8 r).1 = s.readByte .stack (bank0 (s.moveStack r 1#16).sp) := rfl

@[simp] theorem pull8_sp (s : State) (r : StackRule) : (s.pull8 r).2.sp = (s.moveStack r 1#16).sp := rfl

/-- The state after a pull, and the byte it read. -/
theorem pull8_eq (s : State) (r : StackRule) :
    s.pull8 r = (s.readByte .stack (bank0 (s.moveStack r 1#16).sp), { s with sp := (s.moveStack r 1#16).sp }) := rfl

theorem word_sub_add_one (v : Word) : v + 0xFFFF#16 + 1#16 = v := by
  rw [BitVec.add_assoc]; simp

/-- Moving S down and up again brings it back. -/
theorem moveStack_back (s : State) (r : StackRule) :
    ((s.moveStack r 0xFFFF#16).moveStack r 1#16).sp = s.sp := by
  by_cases h : (s.e && r == .page) = true
  · simp only [moveStack_sp, moveStack_e, h, if_true, hi_joinWord]
    have : lo (joinWord (hi s.sp) (lo (s.sp + 0xFFFF#16)) + 1#16) = lo s.sp := by
      apply BitVec.eq_of_toNat_eq
      have h1 := s.sp.isLt
      simp only [toNat_lo, BitVec.toNat_add, toNat_joinWord, toNat_hi]
      simp
      omega
    rw [this, joinWord_hi_lo]
  · simp only [moveStack_sp, moveStack_e, h]
    exact word_sub_add_one _

/-- A pull gets back the byte that was pushed last, when the stack's byte is RAM. -/
theorem pull8_push8 (s : State) (r : StackRule) (v : Byte) (h : s.kindAt (bank0 s.sp) = .ram) :
    ((s.push8 r v).pull8 r).1 = v ∧ ((s.push8 r v).pull8 r).2.sp = s.sp := by
  have hsp : ((s.push8 r v).moveStack r 1#16).sp = s.sp := moveStack_back s r
  refine ⟨?_, hsp⟩
  rw [pull8_value, hsp, push8_readByte, readByte_writeByte_same _ _ _ _ h]

/-! ### The invariant -/

/-- What the invariant says of the registers alone. -/
def State.ModeInv (s : State) : Prop :=
  (s.e = true → s.flag .m = true ∧ s.flag .x = true) ∧ (s.e = true → hi s.sp = 0x01#8) ∧
    (s.flag .x = true → hi s.x = 0x00#8 ∧ hi s.y = 0x00#8)

theorem State.Inv.mode {s : State} (h : s.Inv) : s.ModeInv := ⟨h.1, h.2, h.3⟩

theorem State.Inv.mk' {s : State} (h : s.ModeInv) (hm : s.mem.wf = true) : s.Inv := ⟨h.1, h.2.1, h.2.2, hm⟩

theorem enforceMode_modeInv (s : State) : s.enforceMode.ModeInv := by
  refine ⟨fun h => ?_, fun h => ?_, fun h => enforceMode_narrow s h⟩
  · have h' : s.e = true := h
    simp [h']
  · have h' : s.e = true := h
    simp [h']

theorem writeP_modeInv (s : State) (v : Byte) : (s.writeP v).ModeInv := enforceMode_modeInv _

end Sys2Proof.Machine
end

