-- ==== Sys2Proof/Laws/Stack.lean ====
section
/-! SUPPORT. The stack, said once: where S stands after so many pushes or pulls under each rule (R29, R311), what a push
stores, what a pull reads, and what a trap and a return leave. -/

namespace Sys2Proof.Machine

/-- A read after a write, in one equation: only RAM keeps what is written (R65, R70). -/
theorem readByte_writeByte (s : State) (use : Access) (a b : Addr) (v : Byte) :
    (s.writeByte a v).readByte use b = if b = a ∧ s.kindAt a = .ram then v else s.readByte use b := by
  by_cases hb : b = a
  · subst hb
    by_cases hk : s.kindAt b = .ram
    · simp [hk]
    · simp [hk, readByte_writeByte_not_ram]
  · simp [hb, readByte_writeByte_ne _ _ _ _ _ (Ne.symm hb)]

/-- S after `k` pushed bytes. -/
def State.stackBelow (s : State) (r : StackRule) (k : Nat) : Word :=
  if s.e && r == .page then joinWord (hi s.sp) (lo s.sp - BitVec.ofNat 8 k) else s.sp - BitVec.ofNat 16 k

/-- S after `k` pulled bytes. -/
def State.stackAbove (s : State) (r : StackRule) (k : Nat) : Word :=
  if s.e && r == .page then joinWord (hi s.sp) (lo s.sp + BitVec.ofNat 8 k) else s.sp + BitVec.ofNat 16 k

theorem lo_add (a b : Word) : lo (a + b) = lo a + lo b := by
  apply BitVec.eq_of_toNat_eq
  rw [toNat_lo, BitVec.toNat_add, BitVec.toNat_add, toNat_lo, toNat_lo]
  omega

theorem stackBelow_zero (s : State) (r : StackRule) : s.stackBelow r 0 = s.sp := by simp [State.stackBelow]
theorem stackAbove_zero (s : State) (r : StackRule) : s.stackAbove r 0 = s.sp := by simp [State.stackAbove]

/-- One more push in a state that has pushed `k` bytes. -/
theorem moveStack_below {s t : State} {r : StackRule} {k : Nat} (h : t.sp = s.stackBelow r k) (he : t.e = s.e) :
    (t.moveStack r 0xFFFF#16).sp = s.stackBelow r (k + 1) := by
  simp only [moveStack_sp, he, h, State.stackBelow]
  split
  · simp only [hi_joinWord, lo_add, lo_joinWord, show lo 0xFFFF#16 = 0xFF#8 by decide]
    congr 1
    rw [BitVec.ofNat_add]
    bv_omega
  · rw [BitVec.ofNat_add]
    bv_omega

/-- One more pull in a state that has pulled `k` bytes. -/
theorem moveStack_above {s t : State} {r : StackRule} {k : Nat} (h : t.sp = s.stackAbove r k) (he : t.e = s.e) :
    (t.moveStack r 1#16).sp = s.stackAbove r (k + 1) := by
  simp only [moveStack_sp, he, h, State.stackAbove]
  split
  · simp only [hi_joinWord, lo_add, lo_joinWord, show lo 1#16 = 1#8 by decide]
    congr 1
    rw [BitVec.ofNat_add]
    bv_omega
  · rw [BitVec.ofNat_add]
    bv_omega

/-- The bytes of one instruction's pushes stand at different addresses. -/
theorem stackBelow_ne (s : State) (r : StackRule) {j k : Nat} (hj : j < k) (hk : k < 8) :
    s.stackBelow r j ≠ s.stackBelow r k := by
  unfold State.stackBelow
  split
  · intro h
    have h' := congrArg lo h
    simp only [lo_joinWord] at h'
    interval_cases k <;> interval_cases j <;> simp at h' <;> bv_omega
  · intro h
    interval_cases k <;> interval_cases j <;> simp at h <;> bv_omega

/-- A push stores its byte at S, if that is RAM, and nothing else. -/
theorem push8_reads (s : State) (r : StackRule) (v : Byte) (use : Access) (a : Addr) :
    (s.push8 r v).readByte use a = if a = bank0 s.sp ∧ s.kindAt (bank0 s.sp) = .ram then v else s.readByte use a := by
  rw [push8_readByte, readByte_writeByte]

theorem push8_below {s t : State} {r : StackRule} {k : Nat} (h : t.sp = s.stackBelow r k) (he : t.e = s.e) (v : Byte) :
    (t.push8 r v).sp = s.stackBelow r (k + 1) := moveStack_below h he

theorem push16_sp (s : State) (r : StackRule) (v : Word) : (s.push16 r v).sp = s.stackBelow r 2 :=
  push8_below (push8_below (stackBelow_zero s r).symm rfl _) rfl _

theorem pull8_above {s t : State} {r : StackRule} {k : Nat} (h : t.sp = s.stackAbove r k) (he : t.e = s.e) :
    (t.pull8 r).2.sp = s.stackAbove r (k + 1) := moveStack_above h he

theorem pull8_sp_above (s : State) (r : StackRule) : (s.pull8 r).2.sp = s.stackAbove r 1 :=
  pull8_above (stackAbove_zero s r).symm rfl

theorem pull8_reads {s t : State} {r : StackRule} {k : Nat} (h : t.sp = s.stackAbove r k) (he : t.e = s.e) :
    (t.pull8 r).1 = t.readByte .stack (bank0 (s.stackAbove r (k + 1))) := by
  rw [pull8_value, moveStack_above h he]

theorem pull16_sp_above (s : State) (r : StackRule) : (s.pull16 r).2.sp = s.stackAbove r 2 :=
  pull8_above (pull8_sp_above s r) rfl

theorem pull16_reads (s : State) (r : StackRule) :
    (s.pull16 r).1 = joinWord (s.readByte .stack (bank0 (s.stackAbove r 2))) (s.readByte .stack (bank0 (s.stackAbove r 1))) := by
  simp only [State.pull16]
  rw [pull8_reads (pull8_sp_above s r) rfl, pull8_reads (stackAbove_zero s r).symm rfl, pull8_readByte]

/-! ### Traps (R346, R347) -/

/-- The frame of a trap in native mode (R346). -/
theorem pushTrapFrame_native {s : State} (h : s.e = false) (k : TrapCause) (ret : Word) :
    s.pushTrapFrame k ret =
      (((s.push8 .page s.pbr).push8 .page (hi ret)).push8 .page (lo ret)).push8 .page s.p := by
  simp [State.pushTrapFrame, h, State.push16]

/-- The frame of a trap in emulation mode (R347). -/
theorem pushTrapFrame_emulation {s : State} (h : s.e = true) (k : TrapCause) (ret : Word) :
    s.pushTrapFrame k ret =
      ((s.push8 .page (hi ret)).push8 .page (lo ret)).push8 .page (k.emulationImage s.p) := by
  simp [State.pushTrapFrame, h, State.push16]

theorem takeTrap_sp (s : State) (k : TrapCause) (ret : Word) :
    (s.takeTrap k ret).sp = (s.pushTrapFrame k ret).sp := rfl

theorem takeTrap_readByte (s : State) (k : TrapCause) (ret : Word) (use : Access) (a : Addr) :
    (s.takeTrap k ret).readByte use a = (s.pushTrapFrame k ret).readByte use a := rfl

@[simp] theorem takeTrap_flag (s : State) (k : TrapCause) (ret : Word) (f : Flag) :
    (s.takeTrap k ret).flag f = if f = .d then false else if f = .i then true else s.flag f := by
  have h : (s.takeTrap k ret).flag f = (((s.pushTrapFrame k ret).setFlag .i true).setFlag .d false).flag f := rfl
  rw [h, setFlag_flag, setFlag_flag, pushTrapFrame_flag]

/-- PC after a trap is the word at the vector, read after the frame was pushed (R345). -/
theorem takeTrap_pc (s : State) (k : TrapCause) (ret : Word) :
    (s.takeTrap k ret).pc = joinWord ((s.takeTrap k ret).readByte .vector (bank0 (k.vector s.e + 1#16)))
      ((s.takeTrap k ret).readByte .vector (bank0 (k.vector s.e))) := rfl

@[simp] theorem takeTrap_pbr (s : State) (k : TrapCause) (ret : Word) : (s.takeTrap k ret).pbr = 0x00#8 := rfl

end Sys2Proof.Machine
end

