-- ==== Sys2Proof/Laws/Families.lean ====
section
/-! SUPPORT. One lemma per field for the shared operation of each family of instructions: what it leaves as it was, the
flags m, x, d, i among it. -/

namespace Sys2Proof.Machine

/-! ### loadAcc -/

@[simp] theorem loadAcc_x (s : State) (w : Width) (o : Operand) : (s.loadAcc w o).x = s.x := by
  simp [State.loadAcc]
@[simp] theorem loadAcc_y (s : State) (w : Width) (o : Operand) : (s.loadAcc w o).y = s.y := by
  simp [State.loadAcc]
@[simp] theorem loadAcc_sp (s : State) (w : Width) (o : Operand) : (s.loadAcc w o).sp = s.sp := by
  simp [State.loadAcc]
@[simp] theorem loadAcc_d (s : State) (w : Width) (o : Operand) : (s.loadAcc w o).d = s.d := by
  simp [State.loadAcc]
@[simp] theorem loadAcc_dbr (s : State) (w : Width) (o : Operand) : (s.loadAcc w o).dbr = s.dbr := by
  simp [State.loadAcc]
@[simp] theorem loadAcc_pbr (s : State) (w : Width) (o : Operand) : (s.loadAcc w o).pbr = s.pbr := by
  simp [State.loadAcc]
@[simp] theorem loadAcc_e (s : State) (w : Width) (o : Operand) : (s.loadAcc w o).e = s.e := by
  simp [State.loadAcc]
@[simp] theorem loadAcc_run (s : State) (w : Width) (o : Operand) : (s.loadAcc w o).run = s.run := by
  simp [State.loadAcc]
@[simp] theorem loadAcc_nmiPending (s : State) (w : Width) (o : Operand) : (s.loadAcc w o).nmiPending = s.nmiPending := by
  simp [State.loadAcc]
@[simp] theorem loadAcc_mem (s : State) (w : Width) (o : Operand) : (s.loadAcc w o).mem = s.mem := by
  simp [State.loadAcc]
@[simp] theorem loadAcc_platform (s : State) (w : Width) (o : Operand) : (s.loadAcc w o).platform = s.platform := by
  simp [State.loadAcc]
@[simp] theorem loadAcc_inputs (s : State) (w : Width) (o : Operand) : (s.loadAcc w o).inputs = s.inputs := by
  simp [State.loadAcc]
@[simp] theorem loadAcc_drawCount (s : State) (w : Width) (o : Operand) : (s.loadAcc w o).drawCount = s.drawCount := by
  simp [State.loadAcc]
@[simp] theorem loadAcc_flag_m (s : State) (w : Width) (o : Operand) : (s.loadAcc w o).flag .m = s.flag .m := by
  simp [State.loadAcc]
@[simp] theorem loadAcc_flag_x (s : State) (w : Width) (o : Operand) : (s.loadAcc w o).flag .x = s.flag .x := by
  simp [State.loadAcc]
@[simp] theorem loadAcc_flag_d (s : State) (w : Width) (o : Operand) : (s.loadAcc w o).flag .d = s.flag .d := by
  simp [State.loadAcc]
@[simp] theorem loadAcc_flag_i (s : State) (w : Width) (o : Operand) : (s.loadAcc w o).flag .i = s.flag .i := by
  simp [State.loadAcc]
@[simp] theorem loadAcc_readByte (s : State) (w : Width) (o : Operand) (use : Access) (q : Addr) : (s.loadAcc w o).readByte use q = s.readByte use q := by
  simp [State.loadAcc]

/-! ### loadX -/

@[simp] theorem loadX_c (s : State) (w : Width) (o : Operand) : (s.loadX w o).c = s.c := by
  simp [State.loadX]
@[simp] theorem loadX_y (s : State) (w : Width) (o : Operand) : (s.loadX w o).y = s.y := by
  simp [State.loadX]
@[simp] theorem loadX_sp (s : State) (w : Width) (o : Operand) : (s.loadX w o).sp = s.sp := by
  simp [State.loadX]
@[simp] theorem loadX_d (s : State) (w : Width) (o : Operand) : (s.loadX w o).d = s.d := by
  simp [State.loadX]
@[simp] theorem loadX_dbr (s : State) (w : Width) (o : Operand) : (s.loadX w o).dbr = s.dbr := by
  simp [State.loadX]
@[simp] theorem loadX_pbr (s : State) (w : Width) (o : Operand) : (s.loadX w o).pbr = s.pbr := by
  simp [State.loadX]
@[simp] theorem loadX_e (s : State) (w : Width) (o : Operand) : (s.loadX w o).e = s.e := by
  simp [State.loadX]
@[simp] theorem loadX_run (s : State) (w : Width) (o : Operand) : (s.loadX w o).run = s.run := by
  simp [State.loadX]
@[simp] theorem loadX_nmiPending (s : State) (w : Width) (o : Operand) : (s.loadX w o).nmiPending = s.nmiPending := by
  simp [State.loadX]
@[simp] theorem loadX_mem (s : State) (w : Width) (o : Operand) : (s.loadX w o).mem = s.mem := by
  simp [State.loadX]
@[simp] theorem loadX_platform (s : State) (w : Width) (o : Operand) : (s.loadX w o).platform = s.platform := by
  simp [State.loadX]
@[simp] theorem loadX_inputs (s : State) (w : Width) (o : Operand) : (s.loadX w o).inputs = s.inputs := by
  simp [State.loadX]
@[simp] theorem loadX_drawCount (s : State) (w : Width) (o : Operand) : (s.loadX w o).drawCount = s.drawCount := by
  simp [State.loadX]
@[simp] theorem loadX_flag_m (s : State) (w : Width) (o : Operand) : (s.loadX w o).flag .m = s.flag .m := by
  simp [State.loadX]
@[simp] theorem loadX_flag_x (s : State) (w : Width) (o : Operand) : (s.loadX w o).flag .x = s.flag .x := by
  simp [State.loadX]
@[simp] theorem loadX_flag_d (s : State) (w : Width) (o : Operand) : (s.loadX w o).flag .d = s.flag .d := by
  simp [State.loadX]
@[simp] theorem loadX_flag_i (s : State) (w : Width) (o : Operand) : (s.loadX w o).flag .i = s.flag .i := by
  simp [State.loadX]
@[simp] theorem loadX_readByte (s : State) (w : Width) (o : Operand) (use : Access) (q : Addr) : (s.loadX w o).readByte use q = s.readByte use q := by
  simp [State.loadX]

/-! ### loadY -/

@[simp] theorem loadY_c (s : State) (w : Width) (o : Operand) : (s.loadY w o).c = s.c := by
  simp [State.loadY]
@[simp] theorem loadY_x (s : State) (w : Width) (o : Operand) : (s.loadY w o).x = s.x := by
  simp [State.loadY]
@[simp] theorem loadY_sp (s : State) (w : Width) (o : Operand) : (s.loadY w o).sp = s.sp := by
  simp [State.loadY]
@[simp] theorem loadY_d (s : State) (w : Width) (o : Operand) : (s.loadY w o).d = s.d := by
  simp [State.loadY]
@[simp] theorem loadY_dbr (s : State) (w : Width) (o : Operand) : (s.loadY w o).dbr = s.dbr := by
  simp [State.loadY]
@[simp] theorem loadY_pbr (s : State) (w : Width) (o : Operand) : (s.loadY w o).pbr = s.pbr := by
  simp [State.loadY]
@[simp] theorem loadY_e (s : State) (w : Width) (o : Operand) : (s.loadY w o).e = s.e := by
  simp [State.loadY]
@[simp] theorem loadY_run (s : State) (w : Width) (o : Operand) : (s.loadY w o).run = s.run := by
  simp [State.loadY]
@[simp] theorem loadY_nmiPending (s : State) (w : Width) (o : Operand) : (s.loadY w o).nmiPending = s.nmiPending := by
  simp [State.loadY]
@[simp] theorem loadY_mem (s : State) (w : Width) (o : Operand) : (s.loadY w o).mem = s.mem := by
  simp [State.loadY]
@[simp] theorem loadY_platform (s : State) (w : Width) (o : Operand) : (s.loadY w o).platform = s.platform := by
  simp [State.loadY]
@[simp] theorem loadY_inputs (s : State) (w : Width) (o : Operand) : (s.loadY w o).inputs = s.inputs := by
  simp [State.loadY]
@[simp] theorem loadY_drawCount (s : State) (w : Width) (o : Operand) : (s.loadY w o).drawCount = s.drawCount := by
  simp [State.loadY]
@[simp] theorem loadY_flag_m (s : State) (w : Width) (o : Operand) : (s.loadY w o).flag .m = s.flag .m := by
  simp [State.loadY]
@[simp] theorem loadY_flag_x (s : State) (w : Width) (o : Operand) : (s.loadY w o).flag .x = s.flag .x := by
  simp [State.loadY]
@[simp] theorem loadY_flag_d (s : State) (w : Width) (o : Operand) : (s.loadY w o).flag .d = s.flag .d := by
  simp [State.loadY]
@[simp] theorem loadY_flag_i (s : State) (w : Width) (o : Operand) : (s.loadY w o).flag .i = s.flag .i := by
  simp [State.loadY]
@[simp] theorem loadY_readByte (s : State) (w : Width) (o : Operand) (use : Access) (q : Addr) : (s.loadY w o).readByte use q = s.readByte use q := by
  simp [State.loadY]

/-! ### store -/

@[simp] theorem store_c (s : State) (w : Width) (f : MemForm) (v : BitVec w.bits) : (s.store w f v).c = s.c := by
  simp [State.store]
@[simp] theorem store_x (s : State) (w : Width) (f : MemForm) (v : BitVec w.bits) : (s.store w f v).x = s.x := by
  simp [State.store]
@[simp] theorem store_y (s : State) (w : Width) (f : MemForm) (v : BitVec w.bits) : (s.store w f v).y = s.y := by
  simp [State.store]
@[simp] theorem store_sp (s : State) (w : Width) (f : MemForm) (v : BitVec w.bits) : (s.store w f v).sp = s.sp := by
  simp [State.store]
@[simp] theorem store_d (s : State) (w : Width) (f : MemForm) (v : BitVec w.bits) : (s.store w f v).d = s.d := by
  simp [State.store]
@[simp] theorem store_dbr (s : State) (w : Width) (f : MemForm) (v : BitVec w.bits) : (s.store w f v).dbr = s.dbr := by
  simp [State.store]
@[simp] theorem store_pbr (s : State) (w : Width) (f : MemForm) (v : BitVec w.bits) : (s.store w f v).pbr = s.pbr := by
  simp [State.store]
@[simp] theorem store_p (s : State) (w : Width) (f : MemForm) (v : BitVec w.bits) : (s.store w f v).p = s.p := by
  simp [State.store]
@[simp] theorem store_e (s : State) (w : Width) (f : MemForm) (v : BitVec w.bits) : (s.store w f v).e = s.e := by
  simp [State.store]
@[simp] theorem store_run (s : State) (w : Width) (f : MemForm) (v : BitVec w.bits) : (s.store w f v).run = s.run := by
  simp [State.store]
@[simp] theorem store_nmiPending (s : State) (w : Width) (f : MemForm) (v : BitVec w.bits) : (s.store w f v).nmiPending = s.nmiPending := by
  simp [State.store]
@[simp] theorem store_platform (s : State) (w : Width) (f : MemForm) (v : BitVec w.bits) : (s.store w f v).platform = s.platform := by
  simp [State.store]
@[simp] theorem store_inputs (s : State) (w : Width) (f : MemForm) (v : BitVec w.bits) : (s.store w f v).inputs = s.inputs := by
  simp [State.store]
@[simp] theorem store_drawCount (s : State) (w : Width) (f : MemForm) (v : BitVec w.bits) : (s.store w f v).drawCount = s.drawCount := by
  simp [State.store]
@[simp] theorem store_flag (s : State) (w : Width) (f : MemForm) (v : BitVec w.bits) (g : Flag) : (s.store w f v).flag g = s.flag g := by
  simp only [State.flag, store_p]

/-! ### testReset -/

@[simp] theorem testReset_c (s : State) (w : Width) (f : MemForm) : (s.testReset w f).c = s.c := by
  simp [State.testReset]
@[simp] theorem testReset_x (s : State) (w : Width) (f : MemForm) : (s.testReset w f).x = s.x := by
  simp [State.testReset]
@[simp] theorem testReset_y (s : State) (w : Width) (f : MemForm) : (s.testReset w f).y = s.y := by
  simp [State.testReset]
@[simp] theorem testReset_sp (s : State) (w : Width) (f : MemForm) : (s.testReset w f).sp = s.sp := by
  simp [State.testReset]
@[simp] theorem testReset_d (s : State) (w : Width) (f : MemForm) : (s.testReset w f).d = s.d := by
  simp [State.testReset]
@[simp] theorem testReset_dbr (s : State) (w : Width) (f : MemForm) : (s.testReset w f).dbr = s.dbr := by
  simp [State.testReset]
@[simp] theorem testReset_pbr (s : State) (w : Width) (f : MemForm) : (s.testReset w f).pbr = s.pbr := by
  simp [State.testReset]
@[simp] theorem testReset_e (s : State) (w : Width) (f : MemForm) : (s.testReset w f).e = s.e := by
  simp [State.testReset]
@[simp] theorem testReset_run (s : State) (w : Width) (f : MemForm) : (s.testReset w f).run = s.run := by
  simp [State.testReset]
@[simp] theorem testReset_nmiPending (s : State) (w : Width) (f : MemForm) : (s.testReset w f).nmiPending = s.nmiPending := by
  simp [State.testReset]
@[simp] theorem testReset_platform (s : State) (w : Width) (f : MemForm) : (s.testReset w f).platform = s.platform := by
  simp [State.testReset]
@[simp] theorem testReset_inputs (s : State) (w : Width) (f : MemForm) : (s.testReset w f).inputs = s.inputs := by
  simp [State.testReset]
@[simp] theorem testReset_drawCount (s : State) (w : Width) (f : MemForm) : (s.testReset w f).drawCount = s.drawCount := by
  simp [State.testReset]
@[simp] theorem testReset_flag_m (s : State) (w : Width) (f : MemForm) : (s.testReset w f).flag .m = s.flag .m := by
  simp [State.testReset]
@[simp] theorem testReset_flag_x (s : State) (w : Width) (f : MemForm) : (s.testReset w f).flag .x = s.flag .x := by
  simp [State.testReset]
@[simp] theorem testReset_flag_d (s : State) (w : Width) (f : MemForm) : (s.testReset w f).flag .d = s.flag .d := by
  simp [State.testReset]
@[simp] theorem testReset_flag_i (s : State) (w : Width) (f : MemForm) : (s.testReset w f).flag .i = s.flag .i := by
  simp [State.testReset]

/-! ### testSet -/

@[simp] theorem testSet_c (s : State) (w : Width) (f : MemForm) : (s.testSet w f).c = s.c := by
  simp [State.testSet]
@[simp] theorem testSet_x (s : State) (w : Width) (f : MemForm) : (s.testSet w f).x = s.x := by
  simp [State.testSet]
@[simp] theorem testSet_y (s : State) (w : Width) (f : MemForm) : (s.testSet w f).y = s.y := by
  simp [State.testSet]
@[simp] theorem testSet_sp (s : State) (w : Width) (f : MemForm) : (s.testSet w f).sp = s.sp := by
  simp [State.testSet]
@[simp] theorem testSet_d (s : State) (w : Width) (f : MemForm) : (s.testSet w f).d = s.d := by
  simp [State.testSet]
@[simp] theorem testSet_dbr (s : State) (w : Width) (f : MemForm) : (s.testSet w f).dbr = s.dbr := by
  simp [State.testSet]
@[simp] theorem testSet_pbr (s : State) (w : Width) (f : MemForm) : (s.testSet w f).pbr = s.pbr := by
  simp [State.testSet]
@[simp] theorem testSet_e (s : State) (w : Width) (f : MemForm) : (s.testSet w f).e = s.e := by
  simp [State.testSet]
@[simp] theorem testSet_run (s : State) (w : Width) (f : MemForm) : (s.testSet w f).run = s.run := by
  simp [State.testSet]
@[simp] theorem testSet_nmiPending (s : State) (w : Width) (f : MemForm) : (s.testSet w f).nmiPending = s.nmiPending := by
  simp [State.testSet]
@[simp] theorem testSet_platform (s : State) (w : Width) (f : MemForm) : (s.testSet w f).platform = s.platform := by
  simp [State.testSet]
@[simp] theorem testSet_inputs (s : State) (w : Width) (f : MemForm) : (s.testSet w f).inputs = s.inputs := by
  simp [State.testSet]
@[simp] theorem testSet_drawCount (s : State) (w : Width) (f : MemForm) : (s.testSet w f).drawCount = s.drawCount := by
  simp [State.testSet]
@[simp] theorem testSet_flag_m (s : State) (w : Width) (f : MemForm) : (s.testSet w f).flag .m = s.flag .m := by
  simp [State.testSet]
@[simp] theorem testSet_flag_x (s : State) (w : Width) (f : MemForm) : (s.testSet w f).flag .x = s.flag .x := by
  simp [State.testSet]
@[simp] theorem testSet_flag_d (s : State) (w : Width) (f : MemForm) : (s.testSet w f).flag .d = s.flag .d := by
  simp [State.testSet]
@[simp] theorem testSet_flag_i (s : State) (w : Width) (f : MemForm) : (s.testSet w f).flag .i = s.flag .i := by
  simp [State.testSet]

/-! ### addWithCarry -/

@[simp] theorem addWithCarry_x (s : State) (w : Width) (o : Operand) : (s.addWithCarry w o).x = s.x := by
  simp [State.addWithCarry]
@[simp] theorem addWithCarry_y (s : State) (w : Width) (o : Operand) : (s.addWithCarry w o).y = s.y := by
  simp [State.addWithCarry]
@[simp] theorem addWithCarry_sp (s : State) (w : Width) (o : Operand) : (s.addWithCarry w o).sp = s.sp := by
  simp [State.addWithCarry]
@[simp] theorem addWithCarry_d (s : State) (w : Width) (o : Operand) : (s.addWithCarry w o).d = s.d := by
  simp [State.addWithCarry]
@[simp] theorem addWithCarry_dbr (s : State) (w : Width) (o : Operand) : (s.addWithCarry w o).dbr = s.dbr := by
  simp [State.addWithCarry]
@[simp] theorem addWithCarry_pbr (s : State) (w : Width) (o : Operand) : (s.addWithCarry w o).pbr = s.pbr := by
  simp [State.addWithCarry]
@[simp] theorem addWithCarry_e (s : State) (w : Width) (o : Operand) : (s.addWithCarry w o).e = s.e := by
  simp [State.addWithCarry]
@[simp] theorem addWithCarry_run (s : State) (w : Width) (o : Operand) : (s.addWithCarry w o).run = s.run := by
  simp [State.addWithCarry]
@[simp] theorem addWithCarry_nmiPending (s : State) (w : Width) (o : Operand) : (s.addWithCarry w o).nmiPending = s.nmiPending := by
  simp [State.addWithCarry]
@[simp] theorem addWithCarry_mem (s : State) (w : Width) (o : Operand) : (s.addWithCarry w o).mem = s.mem := by
  simp [State.addWithCarry]
@[simp] theorem addWithCarry_platform (s : State) (w : Width) (o : Operand) : (s.addWithCarry w o).platform = s.platform := by
  simp [State.addWithCarry]
@[simp] theorem addWithCarry_inputs (s : State) (w : Width) (o : Operand) : (s.addWithCarry w o).inputs = s.inputs := by
  simp [State.addWithCarry]
@[simp] theorem addWithCarry_drawCount (s : State) (w : Width) (o : Operand) : (s.addWithCarry w o).drawCount = s.drawCount := by
  simp [State.addWithCarry]
@[simp] theorem addWithCarry_flag_m (s : State) (w : Width) (o : Operand) : (s.addWithCarry w o).flag .m = s.flag .m := by
  simp [State.addWithCarry]
@[simp] theorem addWithCarry_flag_x (s : State) (w : Width) (o : Operand) : (s.addWithCarry w o).flag .x = s.flag .x := by
  simp [State.addWithCarry]
@[simp] theorem addWithCarry_flag_d (s : State) (w : Width) (o : Operand) : (s.addWithCarry w o).flag .d = s.flag .d := by
  simp [State.addWithCarry]
@[simp] theorem addWithCarry_flag_i (s : State) (w : Width) (o : Operand) : (s.addWithCarry w o).flag .i = s.flag .i := by
  simp [State.addWithCarry]
@[simp] theorem addWithCarry_readByte (s : State) (w : Width) (o : Operand) (use : Access) (q : Addr) : (s.addWithCarry w o).readByte use q = s.readByte use q := by
  simp [State.addWithCarry]

/-! ### subWithCarry -/

@[simp] theorem subWithCarry_x (s : State) (w : Width) (o : Operand) : (s.subWithCarry w o).x = s.x := by
  simp [State.subWithCarry]
@[simp] theorem subWithCarry_y (s : State) (w : Width) (o : Operand) : (s.subWithCarry w o).y = s.y := by
  simp [State.subWithCarry]
@[simp] theorem subWithCarry_sp (s : State) (w : Width) (o : Operand) : (s.subWithCarry w o).sp = s.sp := by
  simp [State.subWithCarry]
@[simp] theorem subWithCarry_d (s : State) (w : Width) (o : Operand) : (s.subWithCarry w o).d = s.d := by
  simp [State.subWithCarry]
@[simp] theorem subWithCarry_dbr (s : State) (w : Width) (o : Operand) : (s.subWithCarry w o).dbr = s.dbr := by
  simp [State.subWithCarry]
@[simp] theorem subWithCarry_pbr (s : State) (w : Width) (o : Operand) : (s.subWithCarry w o).pbr = s.pbr := by
  simp [State.subWithCarry]
@[simp] theorem subWithCarry_e (s : State) (w : Width) (o : Operand) : (s.subWithCarry w o).e = s.e := by
  simp [State.subWithCarry]
@[simp] theorem subWithCarry_run (s : State) (w : Width) (o : Operand) : (s.subWithCarry w o).run = s.run := by
  simp [State.subWithCarry]
@[simp] theorem subWithCarry_nmiPending (s : State) (w : Width) (o : Operand) : (s.subWithCarry w o).nmiPending = s.nmiPending := by
  simp [State.subWithCarry]
@[simp] theorem subWithCarry_mem (s : State) (w : Width) (o : Operand) : (s.subWithCarry w o).mem = s.mem := by
  simp [State.subWithCarry]
@[simp] theorem subWithCarry_platform (s : State) (w : Width) (o : Operand) : (s.subWithCarry w o).platform = s.platform := by
  simp [State.subWithCarry]
@[simp] theorem subWithCarry_inputs (s : State) (w : Width) (o : Operand) : (s.subWithCarry w o).inputs = s.inputs := by
  simp [State.subWithCarry]
@[simp] theorem subWithCarry_drawCount (s : State) (w : Width) (o : Operand) : (s.subWithCarry w o).drawCount = s.drawCount := by
  simp [State.subWithCarry]
@[simp] theorem subWithCarry_flag_m (s : State) (w : Width) (o : Operand) : (s.subWithCarry w o).flag .m = s.flag .m := by
  simp [State.subWithCarry]
@[simp] theorem subWithCarry_flag_x (s : State) (w : Width) (o : Operand) : (s.subWithCarry w o).flag .x = s.flag .x := by
  simp [State.subWithCarry]
@[simp] theorem subWithCarry_flag_d (s : State) (w : Width) (o : Operand) : (s.subWithCarry w o).flag .d = s.flag .d := by
  simp [State.subWithCarry]
@[simp] theorem subWithCarry_flag_i (s : State) (w : Width) (o : Operand) : (s.subWithCarry w o).flag .i = s.flag .i := by
  simp [State.subWithCarry]
@[simp] theorem subWithCarry_readByte (s : State) (w : Width) (o : Operand) (use : Access) (q : Addr) : (s.subWithCarry w o).readByte use q = s.readByte use q := by
  simp [State.subWithCarry]

/-! ### increment -/

@[simp] theorem increment_x (s : State) (w : Width) (t : Target) : (s.increment w t).x = s.x := by
  simp [State.increment]
@[simp] theorem increment_y (s : State) (w : Width) (t : Target) : (s.increment w t).y = s.y := by
  simp [State.increment]
@[simp] theorem increment_sp (s : State) (w : Width) (t : Target) : (s.increment w t).sp = s.sp := by
  simp [State.increment]
@[simp] theorem increment_d (s : State) (w : Width) (t : Target) : (s.increment w t).d = s.d := by
  simp [State.increment]
@[simp] theorem increment_dbr (s : State) (w : Width) (t : Target) : (s.increment w t).dbr = s.dbr := by
  simp [State.increment]
@[simp] theorem increment_pbr (s : State) (w : Width) (t : Target) : (s.increment w t).pbr = s.pbr := by
  simp [State.increment]
@[simp] theorem increment_e (s : State) (w : Width) (t : Target) : (s.increment w t).e = s.e := by
  simp [State.increment]
@[simp] theorem increment_run (s : State) (w : Width) (t : Target) : (s.increment w t).run = s.run := by
  simp [State.increment]
@[simp] theorem increment_nmiPending (s : State) (w : Width) (t : Target) : (s.increment w t).nmiPending = s.nmiPending := by
  simp [State.increment]
@[simp] theorem increment_platform (s : State) (w : Width) (t : Target) : (s.increment w t).platform = s.platform := by
  simp [State.increment]
@[simp] theorem increment_inputs (s : State) (w : Width) (t : Target) : (s.increment w t).inputs = s.inputs := by
  simp [State.increment]
@[simp] theorem increment_drawCount (s : State) (w : Width) (t : Target) : (s.increment w t).drawCount = s.drawCount := by
  simp [State.increment]
@[simp] theorem increment_flag_m (s : State) (w : Width) (t : Target) : (s.increment w t).flag .m = s.flag .m := by
  simp [State.increment]
@[simp] theorem increment_flag_x (s : State) (w : Width) (t : Target) : (s.increment w t).flag .x = s.flag .x := by
  simp [State.increment]
@[simp] theorem increment_flag_d (s : State) (w : Width) (t : Target) : (s.increment w t).flag .d = s.flag .d := by
  simp [State.increment]
@[simp] theorem increment_flag_i (s : State) (w : Width) (t : Target) : (s.increment w t).flag .i = s.flag .i := by
  simp [State.increment]

/-! ### decrement -/

@[simp] theorem decrement_x (s : State) (w : Width) (t : Target) : (s.decrement w t).x = s.x := by
  simp [State.decrement]
@[simp] theorem decrement_y (s : State) (w : Width) (t : Target) : (s.decrement w t).y = s.y := by
  simp [State.decrement]
@[simp] theorem decrement_sp (s : State) (w : Width) (t : Target) : (s.decrement w t).sp = s.sp := by
  simp [State.decrement]
@[simp] theorem decrement_d (s : State) (w : Width) (t : Target) : (s.decrement w t).d = s.d := by
  simp [State.decrement]
@[simp] theorem decrement_dbr (s : State) (w : Width) (t : Target) : (s.decrement w t).dbr = s.dbr := by
  simp [State.decrement]
@[simp] theorem decrement_pbr (s : State) (w : Width) (t : Target) : (s.decrement w t).pbr = s.pbr := by
  simp [State.decrement]
@[simp] theorem decrement_e (s : State) (w : Width) (t : Target) : (s.decrement w t).e = s.e := by
  simp [State.decrement]
@[simp] theorem decrement_run (s : State) (w : Width) (t : Target) : (s.decrement w t).run = s.run := by
  simp [State.decrement]
@[simp] theorem decrement_nmiPending (s : State) (w : Width) (t : Target) : (s.decrement w t).nmiPending = s.nmiPending := by
  simp [State.decrement]
@[simp] theorem decrement_platform (s : State) (w : Width) (t : Target) : (s.decrement w t).platform = s.platform := by
  simp [State.decrement]
@[simp] theorem decrement_inputs (s : State) (w : Width) (t : Target) : (s.decrement w t).inputs = s.inputs := by
  simp [State.decrement]
@[simp] theorem decrement_drawCount (s : State) (w : Width) (t : Target) : (s.decrement w t).drawCount = s.drawCount := by
  simp [State.decrement]
@[simp] theorem decrement_flag_m (s : State) (w : Width) (t : Target) : (s.decrement w t).flag .m = s.flag .m := by
  simp [State.decrement]
@[simp] theorem decrement_flag_x (s : State) (w : Width) (t : Target) : (s.decrement w t).flag .x = s.flag .x := by
  simp [State.decrement]
@[simp] theorem decrement_flag_d (s : State) (w : Width) (t : Target) : (s.decrement w t).flag .d = s.flag .d := by
  simp [State.decrement]
@[simp] theorem decrement_flag_i (s : State) (w : Width) (t : Target) : (s.decrement w t).flag .i = s.flag .i := by
  simp [State.decrement]

/-! ### replaceX -/

@[simp] theorem replaceX_c (s : State) (w : Width) (v : BitVec w.bits) : (s.replaceX w v).c = s.c := by
  simp [State.replaceX]
@[simp] theorem replaceX_y (s : State) (w : Width) (v : BitVec w.bits) : (s.replaceX w v).y = s.y := by
  simp [State.replaceX]
@[simp] theorem replaceX_sp (s : State) (w : Width) (v : BitVec w.bits) : (s.replaceX w v).sp = s.sp := by
  simp [State.replaceX]
@[simp] theorem replaceX_d (s : State) (w : Width) (v : BitVec w.bits) : (s.replaceX w v).d = s.d := by
  simp [State.replaceX]
@[simp] theorem replaceX_dbr (s : State) (w : Width) (v : BitVec w.bits) : (s.replaceX w v).dbr = s.dbr := by
  simp [State.replaceX]
@[simp] theorem replaceX_pbr (s : State) (w : Width) (v : BitVec w.bits) : (s.replaceX w v).pbr = s.pbr := by
  simp [State.replaceX]
@[simp] theorem replaceX_e (s : State) (w : Width) (v : BitVec w.bits) : (s.replaceX w v).e = s.e := by
  simp [State.replaceX]
@[simp] theorem replaceX_run (s : State) (w : Width) (v : BitVec w.bits) : (s.replaceX w v).run = s.run := by
  simp [State.replaceX]
@[simp] theorem replaceX_nmiPending (s : State) (w : Width) (v : BitVec w.bits) : (s.replaceX w v).nmiPending = s.nmiPending := by
  simp [State.replaceX]
@[simp] theorem replaceX_mem (s : State) (w : Width) (v : BitVec w.bits) : (s.replaceX w v).mem = s.mem := by
  simp [State.replaceX]
@[simp] theorem replaceX_platform (s : State) (w : Width) (v : BitVec w.bits) : (s.replaceX w v).platform = s.platform := by
  simp [State.replaceX]
@[simp] theorem replaceX_inputs (s : State) (w : Width) (v : BitVec w.bits) : (s.replaceX w v).inputs = s.inputs := by
  simp [State.replaceX]
@[simp] theorem replaceX_drawCount (s : State) (w : Width) (v : BitVec w.bits) : (s.replaceX w v).drawCount = s.drawCount := by
  simp [State.replaceX]
@[simp] theorem replaceX_flag_m (s : State) (w : Width) (v : BitVec w.bits) : (s.replaceX w v).flag .m = s.flag .m := by
  simp [State.replaceX]
@[simp] theorem replaceX_flag_x (s : State) (w : Width) (v : BitVec w.bits) : (s.replaceX w v).flag .x = s.flag .x := by
  simp [State.replaceX]
@[simp] theorem replaceX_flag_d (s : State) (w : Width) (v : BitVec w.bits) : (s.replaceX w v).flag .d = s.flag .d := by
  simp [State.replaceX]
@[simp] theorem replaceX_flag_i (s : State) (w : Width) (v : BitVec w.bits) : (s.replaceX w v).flag .i = s.flag .i := by
  simp [State.replaceX]
@[simp] theorem replaceX_readByte (s : State) (w : Width) (v : BitVec w.bits) (use : Access) (q : Addr) : (s.replaceX w v).readByte use q = s.readByte use q := by
  simp [State.replaceX]

/-! ### replaceY -/

@[simp] theorem replaceY_c (s : State) (w : Width) (v : BitVec w.bits) : (s.replaceY w v).c = s.c := by
  simp [State.replaceY]
@[simp] theorem replaceY_x (s : State) (w : Width) (v : BitVec w.bits) : (s.replaceY w v).x = s.x := by
  simp [State.replaceY]
@[simp] theorem replaceY_sp (s : State) (w : Width) (v : BitVec w.bits) : (s.replaceY w v).sp = s.sp := by
  simp [State.replaceY]
@[simp] theorem replaceY_d (s : State) (w : Width) (v : BitVec w.bits) : (s.replaceY w v).d = s.d := by
  simp [State.replaceY]
@[simp] theorem replaceY_dbr (s : State) (w : Width) (v : BitVec w.bits) : (s.replaceY w v).dbr = s.dbr := by
  simp [State.replaceY]
@[simp] theorem replaceY_pbr (s : State) (w : Width) (v : BitVec w.bits) : (s.replaceY w v).pbr = s.pbr := by
  simp [State.replaceY]
@[simp] theorem replaceY_e (s : State) (w : Width) (v : BitVec w.bits) : (s.replaceY w v).e = s.e := by
  simp [State.replaceY]
@[simp] theorem replaceY_run (s : State) (w : Width) (v : BitVec w.bits) : (s.replaceY w v).run = s.run := by
  simp [State.replaceY]
@[simp] theorem replaceY_nmiPending (s : State) (w : Width) (v : BitVec w.bits) : (s.replaceY w v).nmiPending = s.nmiPending := by
  simp [State.replaceY]
@[simp] theorem replaceY_mem (s : State) (w : Width) (v : BitVec w.bits) : (s.replaceY w v).mem = s.mem := by
  simp [State.replaceY]
@[simp] theorem replaceY_platform (s : State) (w : Width) (v : BitVec w.bits) : (s.replaceY w v).platform = s.platform := by
  simp [State.replaceY]
@[simp] theorem replaceY_inputs (s : State) (w : Width) (v : BitVec w.bits) : (s.replaceY w v).inputs = s.inputs := by
  simp [State.replaceY]
@[simp] theorem replaceY_drawCount (s : State) (w : Width) (v : BitVec w.bits) : (s.replaceY w v).drawCount = s.drawCount := by
  simp [State.replaceY]
@[simp] theorem replaceY_flag_m (s : State) (w : Width) (v : BitVec w.bits) : (s.replaceY w v).flag .m = s.flag .m := by
  simp [State.replaceY]
@[simp] theorem replaceY_flag_x (s : State) (w : Width) (v : BitVec w.bits) : (s.replaceY w v).flag .x = s.flag .x := by
  simp [State.replaceY]
@[simp] theorem replaceY_flag_d (s : State) (w : Width) (v : BitVec w.bits) : (s.replaceY w v).flag .d = s.flag .d := by
  simp [State.replaceY]
@[simp] theorem replaceY_flag_i (s : State) (w : Width) (v : BitVec w.bits) : (s.replaceY w v).flag .i = s.flag .i := by
  simp [State.replaceY]
@[simp] theorem replaceY_readByte (s : State) (w : Width) (v : BitVec w.bits) (use : Access) (q : Addr) : (s.replaceY w v).readByte use q = s.readByte use q := by
  simp [State.replaceY]

/-! ### replaceAcc -/

@[simp] theorem replaceAcc_x (s : State) (w : Width) (r : BitVec w.bits) (n : Nat) : (s.replaceAcc w r n).x = s.x := by
  simp [State.replaceAcc]
@[simp] theorem replaceAcc_y (s : State) (w : Width) (r : BitVec w.bits) (n : Nat) : (s.replaceAcc w r n).y = s.y := by
  simp [State.replaceAcc]
@[simp] theorem replaceAcc_sp (s : State) (w : Width) (r : BitVec w.bits) (n : Nat) : (s.replaceAcc w r n).sp = s.sp := by
  simp [State.replaceAcc]
@[simp] theorem replaceAcc_d (s : State) (w : Width) (r : BitVec w.bits) (n : Nat) : (s.replaceAcc w r n).d = s.d := by
  simp [State.replaceAcc]
@[simp] theorem replaceAcc_dbr (s : State) (w : Width) (r : BitVec w.bits) (n : Nat) : (s.replaceAcc w r n).dbr = s.dbr := by
  simp [State.replaceAcc]
@[simp] theorem replaceAcc_pbr (s : State) (w : Width) (r : BitVec w.bits) (n : Nat) : (s.replaceAcc w r n).pbr = s.pbr := by
  simp [State.replaceAcc]
@[simp] theorem replaceAcc_e (s : State) (w : Width) (r : BitVec w.bits) (n : Nat) : (s.replaceAcc w r n).e = s.e := by
  simp [State.replaceAcc]
@[simp] theorem replaceAcc_run (s : State) (w : Width) (r : BitVec w.bits) (n : Nat) : (s.replaceAcc w r n).run = s.run := by
  simp [State.replaceAcc]
@[simp] theorem replaceAcc_nmiPending (s : State) (w : Width) (r : BitVec w.bits) (n : Nat) : (s.replaceAcc w r n).nmiPending = s.nmiPending := by
  simp [State.replaceAcc]
@[simp] theorem replaceAcc_mem (s : State) (w : Width) (r : BitVec w.bits) (n : Nat) : (s.replaceAcc w r n).mem = s.mem := by
  simp [State.replaceAcc]
@[simp] theorem replaceAcc_platform (s : State) (w : Width) (r : BitVec w.bits) (n : Nat) : (s.replaceAcc w r n).platform = s.platform := by
  simp [State.replaceAcc]
@[simp] theorem replaceAcc_inputs (s : State) (w : Width) (r : BitVec w.bits) (n : Nat) : (s.replaceAcc w r n).inputs = s.inputs := by
  simp [State.replaceAcc]
@[simp] theorem replaceAcc_drawCount (s : State) (w : Width) (r : BitVec w.bits) (n : Nat) : (s.replaceAcc w r n).drawCount = s.drawCount := by
  simp [State.replaceAcc]
@[simp] theorem replaceAcc_flag_m (s : State) (w : Width) (r : BitVec w.bits) (n : Nat) : (s.replaceAcc w r n).flag .m = s.flag .m := by
  simp [State.replaceAcc]
@[simp] theorem replaceAcc_flag_x (s : State) (w : Width) (r : BitVec w.bits) (n : Nat) : (s.replaceAcc w r n).flag .x = s.flag .x := by
  simp [State.replaceAcc]
@[simp] theorem replaceAcc_flag_d (s : State) (w : Width) (r : BitVec w.bits) (n : Nat) : (s.replaceAcc w r n).flag .d = s.flag .d := by
  simp [State.replaceAcc]
@[simp] theorem replaceAcc_flag_i (s : State) (w : Width) (r : BitVec w.bits) (n : Nat) : (s.replaceAcc w r n).flag .i = s.flag .i := by
  simp [State.replaceAcc]
@[simp] theorem replaceAcc_readByte (s : State) (w : Width) (r : BitVec w.bits) (n : Nat) (use : Access) (q : Addr) : (s.replaceAcc w r n).readByte use q = s.readByte use q := by
  simp [State.replaceAcc]

/-! ### andAcc -/

@[simp] theorem andAcc_x (s : State) (w : Width) (o : Operand) : (s.andAcc w o).x = s.x := by
  simp [State.andAcc, State.replaceAcc]
@[simp] theorem andAcc_y (s : State) (w : Width) (o : Operand) : (s.andAcc w o).y = s.y := by
  simp [State.andAcc, State.replaceAcc]
@[simp] theorem andAcc_sp (s : State) (w : Width) (o : Operand) : (s.andAcc w o).sp = s.sp := by
  simp [State.andAcc, State.replaceAcc]
@[simp] theorem andAcc_d (s : State) (w : Width) (o : Operand) : (s.andAcc w o).d = s.d := by
  simp [State.andAcc, State.replaceAcc]
@[simp] theorem andAcc_dbr (s : State) (w : Width) (o : Operand) : (s.andAcc w o).dbr = s.dbr := by
  simp [State.andAcc, State.replaceAcc]
@[simp] theorem andAcc_pbr (s : State) (w : Width) (o : Operand) : (s.andAcc w o).pbr = s.pbr := by
  simp [State.andAcc, State.replaceAcc]
@[simp] theorem andAcc_e (s : State) (w : Width) (o : Operand) : (s.andAcc w o).e = s.e := by
  simp [State.andAcc, State.replaceAcc]
@[simp] theorem andAcc_run (s : State) (w : Width) (o : Operand) : (s.andAcc w o).run = s.run := by
  simp [State.andAcc, State.replaceAcc]
@[simp] theorem andAcc_nmiPending (s : State) (w : Width) (o : Operand) : (s.andAcc w o).nmiPending = s.nmiPending := by
  simp [State.andAcc, State.replaceAcc]
@[simp] theorem andAcc_mem (s : State) (w : Width) (o : Operand) : (s.andAcc w o).mem = s.mem := by
  simp [State.andAcc, State.replaceAcc]
@[simp] theorem andAcc_platform (s : State) (w : Width) (o : Operand) : (s.andAcc w o).platform = s.platform := by
  simp [State.andAcc, State.replaceAcc]
@[simp] theorem andAcc_inputs (s : State) (w : Width) (o : Operand) : (s.andAcc w o).inputs = s.inputs := by
  simp [State.andAcc, State.replaceAcc]
@[simp] theorem andAcc_drawCount (s : State) (w : Width) (o : Operand) : (s.andAcc w o).drawCount = s.drawCount := by
  simp [State.andAcc, State.replaceAcc]
@[simp] theorem andAcc_flag_m (s : State) (w : Width) (o : Operand) : (s.andAcc w o).flag .m = s.flag .m := by
  simp [State.andAcc, State.replaceAcc]
@[simp] theorem andAcc_flag_x (s : State) (w : Width) (o : Operand) : (s.andAcc w o).flag .x = s.flag .x := by
  simp [State.andAcc, State.replaceAcc]
@[simp] theorem andAcc_flag_d (s : State) (w : Width) (o : Operand) : (s.andAcc w o).flag .d = s.flag .d := by
  simp [State.andAcc, State.replaceAcc]
@[simp] theorem andAcc_flag_i (s : State) (w : Width) (o : Operand) : (s.andAcc w o).flag .i = s.flag .i := by
  simp [State.andAcc, State.replaceAcc]
@[simp] theorem andAcc_readByte (s : State) (w : Width) (o : Operand) (use : Access) (q : Addr) : (s.andAcc w o).readByte use q = s.readByte use q := by
  simp [State.andAcc, State.replaceAcc]

/-! ### orAcc -/

@[simp] theorem orAcc_x (s : State) (w : Width) (o : Operand) : (s.orAcc w o).x = s.x := by
  simp [State.orAcc, State.replaceAcc]
@[simp] theorem orAcc_y (s : State) (w : Width) (o : Operand) : (s.orAcc w o).y = s.y := by
  simp [State.orAcc, State.replaceAcc]
@[simp] theorem orAcc_sp (s : State) (w : Width) (o : Operand) : (s.orAcc w o).sp = s.sp := by
  simp [State.orAcc, State.replaceAcc]
@[simp] theorem orAcc_d (s : State) (w : Width) (o : Operand) : (s.orAcc w o).d = s.d := by
  simp [State.orAcc, State.replaceAcc]
@[simp] theorem orAcc_dbr (s : State) (w : Width) (o : Operand) : (s.orAcc w o).dbr = s.dbr := by
  simp [State.orAcc, State.replaceAcc]
@[simp] theorem orAcc_pbr (s : State) (w : Width) (o : Operand) : (s.orAcc w o).pbr = s.pbr := by
  simp [State.orAcc, State.replaceAcc]
@[simp] theorem orAcc_e (s : State) (w : Width) (o : Operand) : (s.orAcc w o).e = s.e := by
  simp [State.orAcc, State.replaceAcc]
@[simp] theorem orAcc_run (s : State) (w : Width) (o : Operand) : (s.orAcc w o).run = s.run := by
  simp [State.orAcc, State.replaceAcc]
@[simp] theorem orAcc_nmiPending (s : State) (w : Width) (o : Operand) : (s.orAcc w o).nmiPending = s.nmiPending := by
  simp [State.orAcc, State.replaceAcc]
@[simp] theorem orAcc_mem (s : State) (w : Width) (o : Operand) : (s.orAcc w o).mem = s.mem := by
  simp [State.orAcc, State.replaceAcc]
@[simp] theorem orAcc_platform (s : State) (w : Width) (o : Operand) : (s.orAcc w o).platform = s.platform := by
  simp [State.orAcc, State.replaceAcc]
@[simp] theorem orAcc_inputs (s : State) (w : Width) (o : Operand) : (s.orAcc w o).inputs = s.inputs := by
  simp [State.orAcc, State.replaceAcc]
@[simp] theorem orAcc_drawCount (s : State) (w : Width) (o : Operand) : (s.orAcc w o).drawCount = s.drawCount := by
  simp [State.orAcc, State.replaceAcc]
@[simp] theorem orAcc_flag_m (s : State) (w : Width) (o : Operand) : (s.orAcc w o).flag .m = s.flag .m := by
  simp [State.orAcc, State.replaceAcc]
@[simp] theorem orAcc_flag_x (s : State) (w : Width) (o : Operand) : (s.orAcc w o).flag .x = s.flag .x := by
  simp [State.orAcc, State.replaceAcc]
@[simp] theorem orAcc_flag_d (s : State) (w : Width) (o : Operand) : (s.orAcc w o).flag .d = s.flag .d := by
  simp [State.orAcc, State.replaceAcc]
@[simp] theorem orAcc_flag_i (s : State) (w : Width) (o : Operand) : (s.orAcc w o).flag .i = s.flag .i := by
  simp [State.orAcc, State.replaceAcc]
@[simp] theorem orAcc_readByte (s : State) (w : Width) (o : Operand) (use : Access) (q : Addr) : (s.orAcc w o).readByte use q = s.readByte use q := by
  simp [State.orAcc, State.replaceAcc]

/-! ### xorAcc -/

@[simp] theorem xorAcc_x (s : State) (w : Width) (o : Operand) : (s.xorAcc w o).x = s.x := by
  simp [State.xorAcc, State.replaceAcc]
@[simp] theorem xorAcc_y (s : State) (w : Width) (o : Operand) : (s.xorAcc w o).y = s.y := by
  simp [State.xorAcc, State.replaceAcc]
@[simp] theorem xorAcc_sp (s : State) (w : Width) (o : Operand) : (s.xorAcc w o).sp = s.sp := by
  simp [State.xorAcc, State.replaceAcc]
@[simp] theorem xorAcc_d (s : State) (w : Width) (o : Operand) : (s.xorAcc w o).d = s.d := by
  simp [State.xorAcc, State.replaceAcc]
@[simp] theorem xorAcc_dbr (s : State) (w : Width) (o : Operand) : (s.xorAcc w o).dbr = s.dbr := by
  simp [State.xorAcc, State.replaceAcc]
@[simp] theorem xorAcc_pbr (s : State) (w : Width) (o : Operand) : (s.xorAcc w o).pbr = s.pbr := by
  simp [State.xorAcc, State.replaceAcc]
@[simp] theorem xorAcc_e (s : State) (w : Width) (o : Operand) : (s.xorAcc w o).e = s.e := by
  simp [State.xorAcc, State.replaceAcc]
@[simp] theorem xorAcc_run (s : State) (w : Width) (o : Operand) : (s.xorAcc w o).run = s.run := by
  simp [State.xorAcc, State.replaceAcc]
@[simp] theorem xorAcc_nmiPending (s : State) (w : Width) (o : Operand) : (s.xorAcc w o).nmiPending = s.nmiPending := by
  simp [State.xorAcc, State.replaceAcc]
@[simp] theorem xorAcc_mem (s : State) (w : Width) (o : Operand) : (s.xorAcc w o).mem = s.mem := by
  simp [State.xorAcc, State.replaceAcc]
@[simp] theorem xorAcc_platform (s : State) (w : Width) (o : Operand) : (s.xorAcc w o).platform = s.platform := by
  simp [State.xorAcc, State.replaceAcc]
@[simp] theorem xorAcc_inputs (s : State) (w : Width) (o : Operand) : (s.xorAcc w o).inputs = s.inputs := by
  simp [State.xorAcc, State.replaceAcc]
@[simp] theorem xorAcc_drawCount (s : State) (w : Width) (o : Operand) : (s.xorAcc w o).drawCount = s.drawCount := by
  simp [State.xorAcc, State.replaceAcc]
@[simp] theorem xorAcc_flag_m (s : State) (w : Width) (o : Operand) : (s.xorAcc w o).flag .m = s.flag .m := by
  simp [State.xorAcc, State.replaceAcc]
@[simp] theorem xorAcc_flag_x (s : State) (w : Width) (o : Operand) : (s.xorAcc w o).flag .x = s.flag .x := by
  simp [State.xorAcc, State.replaceAcc]
@[simp] theorem xorAcc_flag_d (s : State) (w : Width) (o : Operand) : (s.xorAcc w o).flag .d = s.flag .d := by
  simp [State.xorAcc, State.replaceAcc]
@[simp] theorem xorAcc_flag_i (s : State) (w : Width) (o : Operand) : (s.xorAcc w o).flag .i = s.flag .i := by
  simp [State.xorAcc, State.replaceAcc]
@[simp] theorem xorAcc_readByte (s : State) (w : Width) (o : Operand) (use : Access) (q : Addr) : (s.xorAcc w o).readByte use q = s.readByte use q := by
  simp [State.xorAcc, State.replaceAcc]

/-! ### bitMemory -/

@[simp] theorem bitMemory_c (s : State) (w : Width) (f : MemForm) : (s.bitMemory w f).c = s.c := by
  simp [State.bitMemory, State.testBits]
@[simp] theorem bitMemory_x (s : State) (w : Width) (f : MemForm) : (s.bitMemory w f).x = s.x := by
  simp [State.bitMemory, State.testBits]
@[simp] theorem bitMemory_y (s : State) (w : Width) (f : MemForm) : (s.bitMemory w f).y = s.y := by
  simp [State.bitMemory, State.testBits]
@[simp] theorem bitMemory_sp (s : State) (w : Width) (f : MemForm) : (s.bitMemory w f).sp = s.sp := by
  simp [State.bitMemory, State.testBits]
@[simp] theorem bitMemory_d (s : State) (w : Width) (f : MemForm) : (s.bitMemory w f).d = s.d := by
  simp [State.bitMemory, State.testBits]
@[simp] theorem bitMemory_dbr (s : State) (w : Width) (f : MemForm) : (s.bitMemory w f).dbr = s.dbr := by
  simp [State.bitMemory, State.testBits]
@[simp] theorem bitMemory_pbr (s : State) (w : Width) (f : MemForm) : (s.bitMemory w f).pbr = s.pbr := by
  simp [State.bitMemory, State.testBits]
@[simp] theorem bitMemory_e (s : State) (w : Width) (f : MemForm) : (s.bitMemory w f).e = s.e := by
  simp [State.bitMemory, State.testBits]
@[simp] theorem bitMemory_run (s : State) (w : Width) (f : MemForm) : (s.bitMemory w f).run = s.run := by
  simp [State.bitMemory, State.testBits]
@[simp] theorem bitMemory_nmiPending (s : State) (w : Width) (f : MemForm) : (s.bitMemory w f).nmiPending = s.nmiPending := by
  simp [State.bitMemory, State.testBits]
@[simp] theorem bitMemory_mem (s : State) (w : Width) (f : MemForm) : (s.bitMemory w f).mem = s.mem := by
  simp [State.bitMemory, State.testBits]
@[simp] theorem bitMemory_platform (s : State) (w : Width) (f : MemForm) : (s.bitMemory w f).platform = s.platform := by
  simp [State.bitMemory, State.testBits]
@[simp] theorem bitMemory_inputs (s : State) (w : Width) (f : MemForm) : (s.bitMemory w f).inputs = s.inputs := by
  simp [State.bitMemory, State.testBits]
@[simp] theorem bitMemory_drawCount (s : State) (w : Width) (f : MemForm) : (s.bitMemory w f).drawCount = s.drawCount := by
  simp [State.bitMemory, State.testBits]
@[simp] theorem bitMemory_flag_m (s : State) (w : Width) (f : MemForm) : (s.bitMemory w f).flag .m = s.flag .m := by
  simp [State.bitMemory, State.testBits]
@[simp] theorem bitMemory_flag_x (s : State) (w : Width) (f : MemForm) : (s.bitMemory w f).flag .x = s.flag .x := by
  simp [State.bitMemory, State.testBits]
@[simp] theorem bitMemory_flag_d (s : State) (w : Width) (f : MemForm) : (s.bitMemory w f).flag .d = s.flag .d := by
  simp [State.bitMemory, State.testBits]
@[simp] theorem bitMemory_flag_i (s : State) (w : Width) (f : MemForm) : (s.bitMemory w f).flag .i = s.flag .i := by
  simp [State.bitMemory, State.testBits]
@[simp] theorem bitMemory_readByte (s : State) (w : Width) (f : MemForm) (use : Access) (q : Addr) : (s.bitMemory w f).readByte use q = s.readByte use q := by
  simp [State.bitMemory, State.testBits]

/-! ### bitConstant -/

@[simp] theorem bitConstant_c (s : State) (w : Width) (k : Word) : (s.bitConstant w k).c = s.c := by
  simp [State.bitConstant, State.testBits]
@[simp] theorem bitConstant_x (s : State) (w : Width) (k : Word) : (s.bitConstant w k).x = s.x := by
  simp [State.bitConstant, State.testBits]
@[simp] theorem bitConstant_y (s : State) (w : Width) (k : Word) : (s.bitConstant w k).y = s.y := by
  simp [State.bitConstant, State.testBits]
@[simp] theorem bitConstant_sp (s : State) (w : Width) (k : Word) : (s.bitConstant w k).sp = s.sp := by
  simp [State.bitConstant, State.testBits]
@[simp] theorem bitConstant_d (s : State) (w : Width) (k : Word) : (s.bitConstant w k).d = s.d := by
  simp [State.bitConstant, State.testBits]
@[simp] theorem bitConstant_dbr (s : State) (w : Width) (k : Word) : (s.bitConstant w k).dbr = s.dbr := by
  simp [State.bitConstant, State.testBits]
@[simp] theorem bitConstant_pbr (s : State) (w : Width) (k : Word) : (s.bitConstant w k).pbr = s.pbr := by
  simp [State.bitConstant, State.testBits]
@[simp] theorem bitConstant_e (s : State) (w : Width) (k : Word) : (s.bitConstant w k).e = s.e := by
  simp [State.bitConstant, State.testBits]
@[simp] theorem bitConstant_run (s : State) (w : Width) (k : Word) : (s.bitConstant w k).run = s.run := by
  simp [State.bitConstant, State.testBits]
@[simp] theorem bitConstant_nmiPending (s : State) (w : Width) (k : Word) : (s.bitConstant w k).nmiPending = s.nmiPending := by
  simp [State.bitConstant, State.testBits]
@[simp] theorem bitConstant_mem (s : State) (w : Width) (k : Word) : (s.bitConstant w k).mem = s.mem := by
  simp [State.bitConstant, State.testBits]
@[simp] theorem bitConstant_platform (s : State) (w : Width) (k : Word) : (s.bitConstant w k).platform = s.platform := by
  simp [State.bitConstant, State.testBits]
@[simp] theorem bitConstant_inputs (s : State) (w : Width) (k : Word) : (s.bitConstant w k).inputs = s.inputs := by
  simp [State.bitConstant, State.testBits]
@[simp] theorem bitConstant_drawCount (s : State) (w : Width) (k : Word) : (s.bitConstant w k).drawCount = s.drawCount := by
  simp [State.bitConstant, State.testBits]
@[simp] theorem bitConstant_flag_m (s : State) (w : Width) (k : Word) : (s.bitConstant w k).flag .m = s.flag .m := by
  simp [State.bitConstant, State.testBits]
@[simp] theorem bitConstant_flag_x (s : State) (w : Width) (k : Word) : (s.bitConstant w k).flag .x = s.flag .x := by
  simp [State.bitConstant, State.testBits]
@[simp] theorem bitConstant_flag_d (s : State) (w : Width) (k : Word) : (s.bitConstant w k).flag .d = s.flag .d := by
  simp [State.bitConstant, State.testBits]
@[simp] theorem bitConstant_flag_i (s : State) (w : Width) (k : Word) : (s.bitConstant w k).flag .i = s.flag .i := by
  simp [State.bitConstant, State.testBits]
@[simp] theorem bitConstant_readByte (s : State) (w : Width) (k : Word) (use : Access) (q : Addr) : (s.bitConstant w k).readByte use q = s.readByte use q := by
  simp [State.bitConstant, State.testBits]

/-! ### compare -/

@[simp] theorem compare_c (s : State) (w : Width) (r : BitVec w.bits) (o : Operand) : (s.compare w r o).c = s.c := by
  simp [State.compare]
@[simp] theorem compare_x (s : State) (w : Width) (r : BitVec w.bits) (o : Operand) : (s.compare w r o).x = s.x := by
  simp [State.compare]
@[simp] theorem compare_y (s : State) (w : Width) (r : BitVec w.bits) (o : Operand) : (s.compare w r o).y = s.y := by
  simp [State.compare]
@[simp] theorem compare_sp (s : State) (w : Width) (r : BitVec w.bits) (o : Operand) : (s.compare w r o).sp = s.sp := by
  simp [State.compare]
@[simp] theorem compare_d (s : State) (w : Width) (r : BitVec w.bits) (o : Operand) : (s.compare w r o).d = s.d := by
  simp [State.compare]
@[simp] theorem compare_dbr (s : State) (w : Width) (r : BitVec w.bits) (o : Operand) : (s.compare w r o).dbr = s.dbr := by
  simp [State.compare]
@[simp] theorem compare_pbr (s : State) (w : Width) (r : BitVec w.bits) (o : Operand) : (s.compare w r o).pbr = s.pbr := by
  simp [State.compare]
@[simp] theorem compare_e (s : State) (w : Width) (r : BitVec w.bits) (o : Operand) : (s.compare w r o).e = s.e := by
  simp [State.compare]
@[simp] theorem compare_run (s : State) (w : Width) (r : BitVec w.bits) (o : Operand) : (s.compare w r o).run = s.run := by
  simp [State.compare]
@[simp] theorem compare_nmiPending (s : State) (w : Width) (r : BitVec w.bits) (o : Operand) : (s.compare w r o).nmiPending = s.nmiPending := by
  simp [State.compare]
@[simp] theorem compare_mem (s : State) (w : Width) (r : BitVec w.bits) (o : Operand) : (s.compare w r o).mem = s.mem := by
  simp [State.compare]
@[simp] theorem compare_platform (s : State) (w : Width) (r : BitVec w.bits) (o : Operand) : (s.compare w r o).platform = s.platform := by
  simp [State.compare]
@[simp] theorem compare_inputs (s : State) (w : Width) (r : BitVec w.bits) (o : Operand) : (s.compare w r o).inputs = s.inputs := by
  simp [State.compare]
@[simp] theorem compare_drawCount (s : State) (w : Width) (r : BitVec w.bits) (o : Operand) : (s.compare w r o).drawCount = s.drawCount := by
  simp [State.compare]
@[simp] theorem compare_flag_m (s : State) (w : Width) (r : BitVec w.bits) (o : Operand) : (s.compare w r o).flag .m = s.flag .m := by
  simp [State.compare]
@[simp] theorem compare_flag_x (s : State) (w : Width) (r : BitVec w.bits) (o : Operand) : (s.compare w r o).flag .x = s.flag .x := by
  simp [State.compare]
@[simp] theorem compare_flag_d (s : State) (w : Width) (r : BitVec w.bits) (o : Operand) : (s.compare w r o).flag .d = s.flag .d := by
  simp [State.compare]
@[simp] theorem compare_flag_i (s : State) (w : Width) (r : BitVec w.bits) (o : Operand) : (s.compare w r o).flag .i = s.flag .i := by
  simp [State.compare]
@[simp] theorem compare_readByte (s : State) (w : Width) (r : BitVec w.bits) (o : Operand) (use : Access) (q : Addr) : (s.compare w r o).readByte use q = s.readByte use q := by
  simp [State.compare]

/-! ### shiftTarget -/

@[simp] theorem shiftTarget_x (s : State) (w : Width) (t : Target) (o : ShiftOutcome w.bits) : (s.shiftTarget w t o).x = s.x := by
  simp [State.shiftTarget]
@[simp] theorem shiftTarget_y (s : State) (w : Width) (t : Target) (o : ShiftOutcome w.bits) : (s.shiftTarget w t o).y = s.y := by
  simp [State.shiftTarget]
@[simp] theorem shiftTarget_sp (s : State) (w : Width) (t : Target) (o : ShiftOutcome w.bits) : (s.shiftTarget w t o).sp = s.sp := by
  simp [State.shiftTarget]
@[simp] theorem shiftTarget_d (s : State) (w : Width) (t : Target) (o : ShiftOutcome w.bits) : (s.shiftTarget w t o).d = s.d := by
  simp [State.shiftTarget]
@[simp] theorem shiftTarget_dbr (s : State) (w : Width) (t : Target) (o : ShiftOutcome w.bits) : (s.shiftTarget w t o).dbr = s.dbr := by
  simp [State.shiftTarget]
@[simp] theorem shiftTarget_pbr (s : State) (w : Width) (t : Target) (o : ShiftOutcome w.bits) : (s.shiftTarget w t o).pbr = s.pbr := by
  simp [State.shiftTarget]
@[simp] theorem shiftTarget_e (s : State) (w : Width) (t : Target) (o : ShiftOutcome w.bits) : (s.shiftTarget w t o).e = s.e := by
  simp [State.shiftTarget]
@[simp] theorem shiftTarget_run (s : State) (w : Width) (t : Target) (o : ShiftOutcome w.bits) : (s.shiftTarget w t o).run = s.run := by
  simp [State.shiftTarget]
@[simp] theorem shiftTarget_nmiPending (s : State) (w : Width) (t : Target) (o : ShiftOutcome w.bits) : (s.shiftTarget w t o).nmiPending = s.nmiPending := by
  simp [State.shiftTarget]
@[simp] theorem shiftTarget_platform (s : State) (w : Width) (t : Target) (o : ShiftOutcome w.bits) : (s.shiftTarget w t o).platform = s.platform := by
  simp [State.shiftTarget]
@[simp] theorem shiftTarget_inputs (s : State) (w : Width) (t : Target) (o : ShiftOutcome w.bits) : (s.shiftTarget w t o).inputs = s.inputs := by
  simp [State.shiftTarget]
@[simp] theorem shiftTarget_drawCount (s : State) (w : Width) (t : Target) (o : ShiftOutcome w.bits) : (s.shiftTarget w t o).drawCount = s.drawCount := by
  simp [State.shiftTarget]
@[simp] theorem shiftTarget_flag_m (s : State) (w : Width) (t : Target) (o : ShiftOutcome w.bits) : (s.shiftTarget w t o).flag .m = s.flag .m := by
  simp [State.shiftTarget]
@[simp] theorem shiftTarget_flag_x (s : State) (w : Width) (t : Target) (o : ShiftOutcome w.bits) : (s.shiftTarget w t o).flag .x = s.flag .x := by
  simp [State.shiftTarget]
@[simp] theorem shiftTarget_flag_d (s : State) (w : Width) (t : Target) (o : ShiftOutcome w.bits) : (s.shiftTarget w t o).flag .d = s.flag .d := by
  simp [State.shiftTarget]
@[simp] theorem shiftTarget_flag_i (s : State) (w : Width) (t : Target) (o : ShiftOutcome w.bits) : (s.shiftTarget w t o).flag .i = s.flag .i := by
  simp [State.shiftTarget]

/-! ### branchIf -/

@[simp] theorem branchIf_c (s : State) (b : Bool) (disp : Byte) : (s.branchIf b disp).c = s.c := by
  simp [State.branchIf]
@[simp] theorem branchIf_x (s : State) (b : Bool) (disp : Byte) : (s.branchIf b disp).x = s.x := by
  simp [State.branchIf]
@[simp] theorem branchIf_y (s : State) (b : Bool) (disp : Byte) : (s.branchIf b disp).y = s.y := by
  simp [State.branchIf]
@[simp] theorem branchIf_sp (s : State) (b : Bool) (disp : Byte) : (s.branchIf b disp).sp = s.sp := by
  simp [State.branchIf]
@[simp] theorem branchIf_d (s : State) (b : Bool) (disp : Byte) : (s.branchIf b disp).d = s.d := by
  simp [State.branchIf]
@[simp] theorem branchIf_dbr (s : State) (b : Bool) (disp : Byte) : (s.branchIf b disp).dbr = s.dbr := by
  simp [State.branchIf]
@[simp] theorem branchIf_pbr (s : State) (b : Bool) (disp : Byte) : (s.branchIf b disp).pbr = s.pbr := by
  simp [State.branchIf]
@[simp] theorem branchIf_p (s : State) (b : Bool) (disp : Byte) : (s.branchIf b disp).p = s.p := by
  simp [State.branchIf]
@[simp] theorem branchIf_e (s : State) (b : Bool) (disp : Byte) : (s.branchIf b disp).e = s.e := by
  simp [State.branchIf]
@[simp] theorem branchIf_run (s : State) (b : Bool) (disp : Byte) : (s.branchIf b disp).run = s.run := by
  simp [State.branchIf]
@[simp] theorem branchIf_nmiPending (s : State) (b : Bool) (disp : Byte) : (s.branchIf b disp).nmiPending = s.nmiPending := by
  simp [State.branchIf]
@[simp] theorem branchIf_mem (s : State) (b : Bool) (disp : Byte) : (s.branchIf b disp).mem = s.mem := by
  simp [State.branchIf]
@[simp] theorem branchIf_platform (s : State) (b : Bool) (disp : Byte) : (s.branchIf b disp).platform = s.platform := by
  simp [State.branchIf]
@[simp] theorem branchIf_inputs (s : State) (b : Bool) (disp : Byte) : (s.branchIf b disp).inputs = s.inputs := by
  simp [State.branchIf]
@[simp] theorem branchIf_drawCount (s : State) (b : Bool) (disp : Byte) : (s.branchIf b disp).drawCount = s.drawCount := by
  simp [State.branchIf]
@[simp] theorem branchIf_flag (s : State) (b : Bool) (disp : Byte) (g : Flag) : (s.branchIf b disp).flag g = s.flag g := by
  simp only [State.flag, branchIf_p]
@[simp] theorem branchIf_readByte (s : State) (b : Bool) (disp : Byte) (use : Access) (q : Addr) : (s.branchIf b disp).readByte use q = s.readByte use q := by
  simp [State.branchIf]

/-! ### pushReturn -/

@[simp] theorem pushReturn_c (s : State) (r : StackRule) (n : Nat) : (s.pushReturn r n).c = s.c := by
  simp [State.pushReturn]
@[simp] theorem pushReturn_x (s : State) (r : StackRule) (n : Nat) : (s.pushReturn r n).x = s.x := by
  simp [State.pushReturn]
@[simp] theorem pushReturn_y (s : State) (r : StackRule) (n : Nat) : (s.pushReturn r n).y = s.y := by
  simp [State.pushReturn]
@[simp] theorem pushReturn_d (s : State) (r : StackRule) (n : Nat) : (s.pushReturn r n).d = s.d := by
  simp [State.pushReturn]
@[simp] theorem pushReturn_dbr (s : State) (r : StackRule) (n : Nat) : (s.pushReturn r n).dbr = s.dbr := by
  simp [State.pushReturn]
@[simp] theorem pushReturn_pbr (s : State) (r : StackRule) (n : Nat) : (s.pushReturn r n).pbr = s.pbr := by
  simp [State.pushReturn]
@[simp] theorem pushReturn_pc (s : State) (r : StackRule) (n : Nat) : (s.pushReturn r n).pc = s.pc := by
  simp [State.pushReturn]
@[simp] theorem pushReturn_p (s : State) (r : StackRule) (n : Nat) : (s.pushReturn r n).p = s.p := by
  simp [State.pushReturn]
@[simp] theorem pushReturn_e (s : State) (r : StackRule) (n : Nat) : (s.pushReturn r n).e = s.e := by
  simp [State.pushReturn]
@[simp] theorem pushReturn_run (s : State) (r : StackRule) (n : Nat) : (s.pushReturn r n).run = s.run := by
  simp [State.pushReturn]
@[simp] theorem pushReturn_nmiPending (s : State) (r : StackRule) (n : Nat) : (s.pushReturn r n).nmiPending = s.nmiPending := by
  simp [State.pushReturn]
@[simp] theorem pushReturn_platform (s : State) (r : StackRule) (n : Nat) : (s.pushReturn r n).platform = s.platform := by
  simp [State.pushReturn]
@[simp] theorem pushReturn_inputs (s : State) (r : StackRule) (n : Nat) : (s.pushReturn r n).inputs = s.inputs := by
  simp [State.pushReturn]
@[simp] theorem pushReturn_drawCount (s : State) (r : StackRule) (n : Nat) : (s.pushReturn r n).drawCount = s.drawCount := by
  simp [State.pushReturn]
@[simp] theorem pushReturn_flag (s : State) (r : StackRule) (n : Nat) (g : Flag) : (s.pushReturn r n).flag g = s.flag g := by
  simp only [State.flag, pushReturn_p]

/-! ### transferAcc -/

@[simp] theorem transferAcc_x (s : State) (w : Width) (v : BitVec w.bits) : (s.transferAcc w v).x = s.x := by
  simp [State.transferAcc]
@[simp] theorem transferAcc_y (s : State) (w : Width) (v : BitVec w.bits) : (s.transferAcc w v).y = s.y := by
  simp [State.transferAcc]
@[simp] theorem transferAcc_sp (s : State) (w : Width) (v : BitVec w.bits) : (s.transferAcc w v).sp = s.sp := by
  simp [State.transferAcc]
@[simp] theorem transferAcc_d (s : State) (w : Width) (v : BitVec w.bits) : (s.transferAcc w v).d = s.d := by
  simp [State.transferAcc]
@[simp] theorem transferAcc_dbr (s : State) (w : Width) (v : BitVec w.bits) : (s.transferAcc w v).dbr = s.dbr := by
  simp [State.transferAcc]
@[simp] theorem transferAcc_pbr (s : State) (w : Width) (v : BitVec w.bits) : (s.transferAcc w v).pbr = s.pbr := by
  simp [State.transferAcc]
@[simp] theorem transferAcc_e (s : State) (w : Width) (v : BitVec w.bits) : (s.transferAcc w v).e = s.e := by
  simp [State.transferAcc]
@[simp] theorem transferAcc_run (s : State) (w : Width) (v : BitVec w.bits) : (s.transferAcc w v).run = s.run := by
  simp [State.transferAcc]
@[simp] theorem transferAcc_nmiPending (s : State) (w : Width) (v : BitVec w.bits) : (s.transferAcc w v).nmiPending = s.nmiPending := by
  simp [State.transferAcc]
@[simp] theorem transferAcc_mem (s : State) (w : Width) (v : BitVec w.bits) : (s.transferAcc w v).mem = s.mem := by
  simp [State.transferAcc]
@[simp] theorem transferAcc_platform (s : State) (w : Width) (v : BitVec w.bits) : (s.transferAcc w v).platform = s.platform := by
  simp [State.transferAcc]
@[simp] theorem transferAcc_inputs (s : State) (w : Width) (v : BitVec w.bits) : (s.transferAcc w v).inputs = s.inputs := by
  simp [State.transferAcc]
@[simp] theorem transferAcc_drawCount (s : State) (w : Width) (v : BitVec w.bits) : (s.transferAcc w v).drawCount = s.drawCount := by
  simp [State.transferAcc]
@[simp] theorem transferAcc_flag_m (s : State) (w : Width) (v : BitVec w.bits) : (s.transferAcc w v).flag .m = s.flag .m := by
  simp [State.transferAcc]
@[simp] theorem transferAcc_flag_x (s : State) (w : Width) (v : BitVec w.bits) : (s.transferAcc w v).flag .x = s.flag .x := by
  simp [State.transferAcc]
@[simp] theorem transferAcc_flag_d (s : State) (w : Width) (v : BitVec w.bits) : (s.transferAcc w v).flag .d = s.flag .d := by
  simp [State.transferAcc]
@[simp] theorem transferAcc_flag_i (s : State) (w : Width) (v : BitVec w.bits) : (s.transferAcc w v).flag .i = s.flag .i := by
  simp [State.transferAcc]
@[simp] theorem transferAcc_readByte (s : State) (w : Width) (v : BitVec w.bits) (use : Access) (q : Addr) : (s.transferAcc w v).readByte use q = s.readByte use q := by
  simp [State.transferAcc]

/-! ### transferX -/

@[simp] theorem transferX_c (s : State) (w : Width) (v : BitVec w.bits) : (s.transferX w v).c = s.c := by
  simp [State.transferX]
@[simp] theorem transferX_y (s : State) (w : Width) (v : BitVec w.bits) : (s.transferX w v).y = s.y := by
  simp [State.transferX]
@[simp] theorem transferX_sp (s : State) (w : Width) (v : BitVec w.bits) : (s.transferX w v).sp = s.sp := by
  simp [State.transferX]
@[simp] theorem transferX_d (s : State) (w : Width) (v : BitVec w.bits) : (s.transferX w v).d = s.d := by
  simp [State.transferX]
@[simp] theorem transferX_dbr (s : State) (w : Width) (v : BitVec w.bits) : (s.transferX w v).dbr = s.dbr := by
  simp [State.transferX]
@[simp] theorem transferX_pbr (s : State) (w : Width) (v : BitVec w.bits) : (s.transferX w v).pbr = s.pbr := by
  simp [State.transferX]
@[simp] theorem transferX_e (s : State) (w : Width) (v : BitVec w.bits) : (s.transferX w v).e = s.e := by
  simp [State.transferX]
@[simp] theorem transferX_run (s : State) (w : Width) (v : BitVec w.bits) : (s.transferX w v).run = s.run := by
  simp [State.transferX]
@[simp] theorem transferX_nmiPending (s : State) (w : Width) (v : BitVec w.bits) : (s.transferX w v).nmiPending = s.nmiPending := by
  simp [State.transferX]
@[simp] theorem transferX_mem (s : State) (w : Width) (v : BitVec w.bits) : (s.transferX w v).mem = s.mem := by
  simp [State.transferX]
@[simp] theorem transferX_platform (s : State) (w : Width) (v : BitVec w.bits) : (s.transferX w v).platform = s.platform := by
  simp [State.transferX]
@[simp] theorem transferX_inputs (s : State) (w : Width) (v : BitVec w.bits) : (s.transferX w v).inputs = s.inputs := by
  simp [State.transferX]
@[simp] theorem transferX_drawCount (s : State) (w : Width) (v : BitVec w.bits) : (s.transferX w v).drawCount = s.drawCount := by
  simp [State.transferX]
@[simp] theorem transferX_flag_m (s : State) (w : Width) (v : BitVec w.bits) : (s.transferX w v).flag .m = s.flag .m := by
  simp [State.transferX]
@[simp] theorem transferX_flag_x (s : State) (w : Width) (v : BitVec w.bits) : (s.transferX w v).flag .x = s.flag .x := by
  simp [State.transferX]
@[simp] theorem transferX_flag_d (s : State) (w : Width) (v : BitVec w.bits) : (s.transferX w v).flag .d = s.flag .d := by
  simp [State.transferX]
@[simp] theorem transferX_flag_i (s : State) (w : Width) (v : BitVec w.bits) : (s.transferX w v).flag .i = s.flag .i := by
  simp [State.transferX]
@[simp] theorem transferX_readByte (s : State) (w : Width) (v : BitVec w.bits) (use : Access) (q : Addr) : (s.transferX w v).readByte use q = s.readByte use q := by
  simp [State.transferX]

/-! ### transferY -/

@[simp] theorem transferY_c (s : State) (w : Width) (v : BitVec w.bits) : (s.transferY w v).c = s.c := by
  simp [State.transferY]
@[simp] theorem transferY_x (s : State) (w : Width) (v : BitVec w.bits) : (s.transferY w v).x = s.x := by
  simp [State.transferY]
@[simp] theorem transferY_sp (s : State) (w : Width) (v : BitVec w.bits) : (s.transferY w v).sp = s.sp := by
  simp [State.transferY]
@[simp] theorem transferY_d (s : State) (w : Width) (v : BitVec w.bits) : (s.transferY w v).d = s.d := by
  simp [State.transferY]
@[simp] theorem transferY_dbr (s : State) (w : Width) (v : BitVec w.bits) : (s.transferY w v).dbr = s.dbr := by
  simp [State.transferY]
@[simp] theorem transferY_pbr (s : State) (w : Width) (v : BitVec w.bits) : (s.transferY w v).pbr = s.pbr := by
  simp [State.transferY]
@[simp] theorem transferY_e (s : State) (w : Width) (v : BitVec w.bits) : (s.transferY w v).e = s.e := by
  simp [State.transferY]
@[simp] theorem transferY_run (s : State) (w : Width) (v : BitVec w.bits) : (s.transferY w v).run = s.run := by
  simp [State.transferY]
@[simp] theorem transferY_nmiPending (s : State) (w : Width) (v : BitVec w.bits) : (s.transferY w v).nmiPending = s.nmiPending := by
  simp [State.transferY]
@[simp] theorem transferY_mem (s : State) (w : Width) (v : BitVec w.bits) : (s.transferY w v).mem = s.mem := by
  simp [State.transferY]
@[simp] theorem transferY_platform (s : State) (w : Width) (v : BitVec w.bits) : (s.transferY w v).platform = s.platform := by
  simp [State.transferY]
@[simp] theorem transferY_inputs (s : State) (w : Width) (v : BitVec w.bits) : (s.transferY w v).inputs = s.inputs := by
  simp [State.transferY]
@[simp] theorem transferY_drawCount (s : State) (w : Width) (v : BitVec w.bits) : (s.transferY w v).drawCount = s.drawCount := by
  simp [State.transferY]
@[simp] theorem transferY_flag_m (s : State) (w : Width) (v : BitVec w.bits) : (s.transferY w v).flag .m = s.flag .m := by
  simp [State.transferY]
@[simp] theorem transferY_flag_x (s : State) (w : Width) (v : BitVec w.bits) : (s.transferY w v).flag .x = s.flag .x := by
  simp [State.transferY]
@[simp] theorem transferY_flag_d (s : State) (w : Width) (v : BitVec w.bits) : (s.transferY w v).flag .d = s.flag .d := by
  simp [State.transferY]
@[simp] theorem transferY_flag_i (s : State) (w : Width) (v : BitVec w.bits) : (s.transferY w v).flag .i = s.flag .i := by
  simp [State.transferY]
@[simp] theorem transferY_readByte (s : State) (w : Width) (v : BitVec w.bits) (use : Access) (q : Addr) : (s.transferY w v).readByte use q = s.readByte use q := by
  simp [State.transferY]

/-! ### blockMove -/

@[simp] theorem blockMove_sp (s : State) (k : Word) (src dest : Byte) : (s.blockMove k src dest).sp = s.sp := by
  simp [State.blockMove]
@[simp] theorem blockMove_d (s : State) (k : Word) (src dest : Byte) : (s.blockMove k src dest).d = s.d := by
  simp [State.blockMove]
@[simp] theorem blockMove_pbr (s : State) (k : Word) (src dest : Byte) : (s.blockMove k src dest).pbr = s.pbr := by
  simp [State.blockMove]
@[simp] theorem blockMove_p (s : State) (k : Word) (src dest : Byte) : (s.blockMove k src dest).p = s.p := by
  simp [State.blockMove]
@[simp] theorem blockMove_e (s : State) (k : Word) (src dest : Byte) : (s.blockMove k src dest).e = s.e := by
  simp [State.blockMove]
@[simp] theorem blockMove_run (s : State) (k : Word) (src dest : Byte) : (s.blockMove k src dest).run = s.run := by
  simp [State.blockMove]
@[simp] theorem blockMove_nmiPending (s : State) (k : Word) (src dest : Byte) : (s.blockMove k src dest).nmiPending = s.nmiPending := by
  simp [State.blockMove]
@[simp] theorem blockMove_platform (s : State) (k : Word) (src dest : Byte) : (s.blockMove k src dest).platform = s.platform := by
  simp [State.blockMove]
@[simp] theorem blockMove_inputs (s : State) (k : Word) (src dest : Byte) : (s.blockMove k src dest).inputs = s.inputs := by
  simp [State.blockMove]
@[simp] theorem blockMove_drawCount (s : State) (k : Word) (src dest : Byte) : (s.blockMove k src dest).drawCount = s.drawCount := by
  simp [State.blockMove]
@[simp] theorem blockMove_flag (s : State) (k : Word) (src dest : Byte) (g : Flag) : (s.blockMove k src dest).flag g = s.flag g := by
  simp only [State.flag, blockMove_p]

/-! ### pushWide -/

@[simp] theorem pushWide_c (s : State) (v : Word) (n : Nat) : (s.pushWide v n).c = s.c := by
  simp [State.pushWide]
@[simp] theorem pushWide_x (s : State) (v : Word) (n : Nat) : (s.pushWide v n).x = s.x := by
  simp [State.pushWide]
@[simp] theorem pushWide_y (s : State) (v : Word) (n : Nat) : (s.pushWide v n).y = s.y := by
  simp [State.pushWide]
@[simp] theorem pushWide_d (s : State) (v : Word) (n : Nat) : (s.pushWide v n).d = s.d := by
  simp [State.pushWide]
@[simp] theorem pushWide_dbr (s : State) (v : Word) (n : Nat) : (s.pushWide v n).dbr = s.dbr := by
  simp [State.pushWide]
@[simp] theorem pushWide_pbr (s : State) (v : Word) (n : Nat) : (s.pushWide v n).pbr = s.pbr := by
  simp [State.pushWide]
@[simp] theorem pushWide_p (s : State) (v : Word) (n : Nat) : (s.pushWide v n).p = s.p := by
  simp [State.pushWide]
@[simp] theorem pushWide_e (s : State) (v : Word) (n : Nat) : (s.pushWide v n).e = s.e := by
  simp [State.pushWide]
@[simp] theorem pushWide_run (s : State) (v : Word) (n : Nat) : (s.pushWide v n).run = s.run := by
  simp [State.pushWide]
@[simp] theorem pushWide_nmiPending (s : State) (v : Word) (n : Nat) : (s.pushWide v n).nmiPending = s.nmiPending := by
  simp [State.pushWide]
@[simp] theorem pushWide_platform (s : State) (v : Word) (n : Nat) : (s.pushWide v n).platform = s.platform := by
  simp [State.pushWide]
@[simp] theorem pushWide_inputs (s : State) (v : Word) (n : Nat) : (s.pushWide v n).inputs = s.inputs := by
  simp [State.pushWide]
@[simp] theorem pushWide_drawCount (s : State) (v : Word) (n : Nat) : (s.pushWide v n).drawCount = s.drawCount := by
  simp [State.pushWide]
@[simp] theorem pushWide_flag (s : State) (v : Word) (n : Nat) (g : Flag) : (s.pushWide v n).flag g = s.flag g := by
  simp only [State.flag, pushWide_p]

/-! ### pushAtWidth -/

@[simp] theorem pushAtWidth_c (s : State) (w : Width) (v : BitVec w.bits) : (s.pushAtWidth w v).c = s.c := by
  simp [State.pushAtWidth]
@[simp] theorem pushAtWidth_x (s : State) (w : Width) (v : BitVec w.bits) : (s.pushAtWidth w v).x = s.x := by
  simp [State.pushAtWidth]
@[simp] theorem pushAtWidth_y (s : State) (w : Width) (v : BitVec w.bits) : (s.pushAtWidth w v).y = s.y := by
  simp [State.pushAtWidth]
@[simp] theorem pushAtWidth_d (s : State) (w : Width) (v : BitVec w.bits) : (s.pushAtWidth w v).d = s.d := by
  simp [State.pushAtWidth]
@[simp] theorem pushAtWidth_dbr (s : State) (w : Width) (v : BitVec w.bits) : (s.pushAtWidth w v).dbr = s.dbr := by
  simp [State.pushAtWidth]
@[simp] theorem pushAtWidth_pbr (s : State) (w : Width) (v : BitVec w.bits) : (s.pushAtWidth w v).pbr = s.pbr := by
  simp [State.pushAtWidth]
@[simp] theorem pushAtWidth_p (s : State) (w : Width) (v : BitVec w.bits) : (s.pushAtWidth w v).p = s.p := by
  simp [State.pushAtWidth]
@[simp] theorem pushAtWidth_e (s : State) (w : Width) (v : BitVec w.bits) : (s.pushAtWidth w v).e = s.e := by
  simp [State.pushAtWidth]
@[simp] theorem pushAtWidth_run (s : State) (w : Width) (v : BitVec w.bits) : (s.pushAtWidth w v).run = s.run := by
  simp [State.pushAtWidth]
@[simp] theorem pushAtWidth_nmiPending (s : State) (w : Width) (v : BitVec w.bits) : (s.pushAtWidth w v).nmiPending = s.nmiPending := by
  simp [State.pushAtWidth]
@[simp] theorem pushAtWidth_platform (s : State) (w : Width) (v : BitVec w.bits) : (s.pushAtWidth w v).platform = s.platform := by
  simp [State.pushAtWidth]
@[simp] theorem pushAtWidth_inputs (s : State) (w : Width) (v : BitVec w.bits) : (s.pushAtWidth w v).inputs = s.inputs := by
  simp [State.pushAtWidth]
@[simp] theorem pushAtWidth_drawCount (s : State) (w : Width) (v : BitVec w.bits) : (s.pushAtWidth w v).drawCount = s.drawCount := by
  simp [State.pushAtWidth]
@[simp] theorem pushAtWidth_flag (s : State) (w : Width) (v : BitVec w.bits) (g : Flag) : (s.pushAtWidth w v).flag g = s.flag g := by
  simp only [State.flag, pushAtWidth_p]

/-! ### takeInterrupt -/

@[simp] theorem takeInterrupt_c (s : State) (k : TrapCause) : (s.takeInterrupt k).c = s.c := by
  simp [State.takeInterrupt]
@[simp] theorem takeInterrupt_x (s : State) (k : TrapCause) : (s.takeInterrupt k).x = s.x := by
  simp [State.takeInterrupt]
@[simp] theorem takeInterrupt_y (s : State) (k : TrapCause) : (s.takeInterrupt k).y = s.y := by
  simp [State.takeInterrupt]
@[simp] theorem takeInterrupt_d (s : State) (k : TrapCause) : (s.takeInterrupt k).d = s.d := by
  simp [State.takeInterrupt]
@[simp] theorem takeInterrupt_dbr (s : State) (k : TrapCause) : (s.takeInterrupt k).dbr = s.dbr := by
  simp [State.takeInterrupt]
@[simp] theorem takeInterrupt_e (s : State) (k : TrapCause) : (s.takeInterrupt k).e = s.e := by
  simp [State.takeInterrupt]
@[simp] theorem takeInterrupt_nmiPending (s : State) (k : TrapCause) : (s.takeInterrupt k).nmiPending = s.nmiPending := by
  simp [State.takeInterrupt]
@[simp] theorem takeInterrupt_platform (s : State) (k : TrapCause) : (s.takeInterrupt k).platform = s.platform := by
  simp [State.takeInterrupt]
@[simp] theorem takeInterrupt_inputs (s : State) (k : TrapCause) : (s.takeInterrupt k).inputs = s.inputs := by
  simp [State.takeInterrupt]
@[simp] theorem takeInterrupt_drawCount (s : State) (k : TrapCause) : (s.takeInterrupt k).drawCount = s.drawCount := by
  simp [State.takeInterrupt]

end Sys2Proof.Machine
end

