-- ==== Sys2Proof/Laws/Fetch.lean ====
section
/-! SUPPORT. What placing bytes from outside does, and that the next fetch reads them. -/

namespace Sys2Proof.Machine

/-- A byte placed at a device location makes that location RAM; no other location changes its kind. -/
theorem placeByte_kindAt (s : State) (a b : Addr) (v : Byte) :
    (s.placeByte a v).kindAt b = if b = a ∧ s.kindAt a = .device then .ram else s.kindAt b := by
  unfold State.placeByte State.kindAt
  by_cases hk : kindIn s.platform a.toNat = .device
  · have hb : (a.toNat ≤ b.toNat ∧ b.toNat ≤ a.toNat) ↔ b = a := by
      rw [← BitVec.toNat_inj]
      omega
    simp [hk, kindIn, Window.holds, hb]
  · simp [hk]

@[simp] theorem placeByte_fetchAddr (s : State) (a : Addr) (v : Byte) (k : Nat) :
    (s.placeByte a v).fetchAddr k = s.fetchAddr k := rfl

@[simp] theorem placeByte_flag (s : State) (a : Addr) (v : Byte) (f : Flag) : (s.placeByte a v).flag f = s.flag f := rfl

theorem placeByte_not_device (s : State) (a : Addr) (v : Byte) : (s.placeByte a v).kindAt a ≠ .device := by
  rw [placeByte_kindAt]
  by_cases h : s.kindAt a = .device <;> simp [h]

/-- A byte placed from outside is what every read of its location answers, and every other location reads as before. -/
theorem readByte_placeByte (s : State) (use : Access) (a b : Addr) (v : Byte) :
    (s.placeByte a v).readByte use b = if b = a then v else s.readByte use b := by
  by_cases h : b = a
  · subst h
    have hd := placeByte_not_device s b v
    have hm : (s.placeByte b v).mem.read b.toNat = v := by simp [State.placeByte, Memory.read_write]
    unfold State.readByte
    split
    · simp [hm]
    · simp [hm]
    · contradiction
  · have hm : (s.placeByte a v).mem.read b.toNat = s.mem.read b.toNat := by
      have hn : b.toNat ≠ a.toNat := fun e => h (BitVec.eq_of_toNat_eq e)
      simp [State.placeByte, Memory.read_write, Ne.symm hn]
    have hd : (s.placeByte a v).drawCount = s.drawCount := rfl
    simp only [State.readByte, placeByte_kindAt, hm, hd, h, false_and, if_false]

/-- The four bytes a fetch looks at stand at four addresses. -/
theorem fetchAddr_ne (s : State) {j k : Nat} (hj : j < 4) (hk : k < 4) (h : j ≠ k) : s.fetchAddr j ≠ s.fetchAddr k := by
  intro e
  have h' := (bankAddr_inj e).2
  simp only [State.pcNext] at h'
  interval_cases j <;> interval_cases k <;> simp at h h'

/-- Using up a sample and placing a word from outside touch different fields. -/
theorem beginStep_withFetchWord (s : State) (nbits w : Nat) :
    (s.withFetchWord nbits w).beginStep = s.readyToFetch.beginStep.placeTableWord nbits w := rfl

@[simp] theorem placeTableWord_fetchAddr (s : State) (nbits w k : Nat) :
    (s.placeTableWord nbits w).fetchAddr k = s.fetchAddr k := by
  simp only [State.placeTableWord, placeByte_fetchAddr]

/-- A placed table word is what a fetch at its place reads. -/
theorem placeTableWord_fetchByte (s : State) (nbits w k : Nat) (hk : k < 4) :
    (s.placeTableWord nbits w).fetchByte k = tableByte nbits w k := by
  have ne : ∀ j, j < 4 → k ≠ j → s.fetchAddr k ≠ s.fetchAddr j := fun j hj h => fetchAddr_ne s hk hj h
  unfold State.fetchByte
  rw [placeTableWord_fetchAddr]
  unfold State.placeTableWord
  generalize tableByte nbits w = byte
  simp only [readByte_placeByte]
  obtain rfl | rfl | rfl | rfl : k = 0 ∨ k = 1 ∨ k = 2 ∨ k = 3 := by omega
  · rw [if_neg (ne 3 (by decide) (by decide)), if_neg (ne 2 (by decide) (by decide)), if_neg (ne 1 (by decide) (by decide)),
      if_pos rfl]
  · rw [if_neg (ne 3 (by decide) (by decide)), if_neg (ne 2 (by decide) (by decide)), if_pos rfl]
  · rw [if_neg (ne 3 (by decide) (by decide)), if_pos rfl]
  · rw [if_pos rfl]

/-- The step of a state with a placed table word fetches the bytes of that word. -/
theorem withFetchWord_fetchByte (s : State) (nbits w k : Nat) (hk : k < 4) :
    (s.withFetchWord nbits w).beginStep.fetchByte k = tableByte nbits w k := by
  rw [beginStep_withFetchWord, placeTableWord_fetchByte _ _ _ _ hk]

/-- Placing a word from outside leaves m and x, and so the decoding, as they were. -/
theorem withFetchWord_flag (s : State) (nbits w : Nat) (f : Flag) :
    (s.withFetchWord nbits w).beginStep.flag f = s.flag f := by
  rw [beginStep_withFetchWord]
  simp only [State.placeTableWord, placeByte_flag]
  rfl

/-- The step of a state with a placed table word decodes the bytes of that word under the current m and x. -/
theorem withFetchWord_fetchInstr (s : State) (nbits w : Nat) :
    (s.withFetchWord nbits w).beginStep.fetchInstr = decodeBytes (s.flag .m) (s.flag .x) (tableByte nbits w 0)
      (tableByte nbits w 1) (tableByte nbits w 2) (tableByte nbits w 3) := by
  rw [State.fetchInstr, withFetchWord_flag, withFetchWord_flag, withFetchWord_fetchByte _ _ _ 0 (by decide),
    withFetchWord_fetchByte _ _ _ 1 (by decide), withFetchWord_fetchByte _ _ _ 2 (by decide),
    withFetchWord_fetchByte _ _ _ 3 (by decide)]

end Sys2Proof.Machine
end

