-- ==== Sys2Proof/Laws/Invariant.lean ====
section
/-! SUPPORT. What keeps the invariant: `State.Keeps s t` says that t has s's mode and breaks nothing the invariant asks for,
and there is one lemma for the shared operation of each family of instructions. -/

namespace Sys2Proof.Machine

/-- `t` has the mode of `s`, and S, X, Y and memory of `t` are as the invariant asks if those of `s` are. -/
structure State.Keeps (s t : State) : Prop where
  e : t.e = s.e
  m : t.flag .m = s.flag .m
  x : t.flag .x = s.flag .x
  stack : s.e = true → hi s.sp = 0x01#8 → hi t.sp = 0x01#8
  indexes : s.flag .x = true → hi s.x = 0x00#8 → hi s.y = 0x00#8 → hi t.x = 0x00#8 ∧ hi t.y = 0x00#8
  memory : s.mem.wf = true → t.mem.wf = true

theorem State.Keeps.inv {s t : State} (k : s.Keeps t) (h : s.Inv) : t.Inv := by
  refine ⟨fun he => ?_, fun he => ?_, fun hx => ?_, k.memory h.4⟩
  · rw [k.e] at he; rw [k.m, k.x]; exact h.1 he
  · rw [k.e] at he; exact k.stack he (h.2 he)
  · rw [k.x] at hx; exact k.indexes hx (h.3 hx).1 (h.3 hx).2

theorem State.Keeps.trans {s t u : State} (h : s.Keeps t) (k : t.Keeps u) : s.Keeps u where
  e := k.e.trans h.e
  m := k.m.trans h.m
  x := k.x.trans h.x
  stack he hs := k.stack (h.e.trans he) (h.stack he hs)
  indexes hx h1 h2 :=
    k.indexes (h.x.trans hx) (h.indexes hx h1 h2).1 (h.indexes hx h1 h2).2
  memory hm := k.memory (h.memory hm)

/-- What keeps e, m, x, S, X and Y keeps the invariant if it keeps memory's form. -/
theorem State.Keeps.of_same {s t : State} (he : t.e = s.e) (hm : t.flag .m = s.flag .m) (hx : t.flag .x = s.flag .x)
    (hs : t.sp = s.sp) (h1 : t.x = s.x) (h2 : t.y = s.y) (hw : s.mem.wf = true → t.mem.wf = true) : s.Keeps t :=
  ⟨he, hm, hx, fun _ h => by rw [hs]; exact h, fun _ a b => by rw [h1, h2]; exact ⟨a, b⟩, hw⟩

theorem hi_setWidth_wXY {s : State} (v : BitVec s.wXY.bits) (h : s.flag .x = true) :
    hi (v.setWidth 16) = 0x00#8 := by
  revert v
  unfold State.wXY
  rw [h]
  exact fun v => hi_zext16 v

/-! ### Registers, flags, PC -/

theorem keeps_advance (s : State) (n : Nat) : s.Keeps (s.advance n) :=
  .of_same rfl (by simp) (by simp) rfl rfl rfl id
theorem keeps_jump (s : State) (a : Word) : s.Keeps (s.jump a) := .of_same rfl (by simp) (by simp) rfl rfl rfl id
theorem keeps_jumpLong (s : State) (a : Addr) : s.Keeps (s.jumpLong a) :=
  .of_same rfl (by simp) (by simp) rfl rfl rfl id
theorem keeps_branchIf (s : State) (b : Bool) (disp : Byte) : s.Keeps (s.branchIf b disp) :=
  .of_same (by simp) (by simp) (by simp) (by simp) (by simp) (by simp) (by simp)
theorem keeps_setFlag (s : State) (f : Flag) (b : Bool) (hm : f ≠ .m) (hx : f ≠ .x) : s.Keeps (s.setFlag f b) :=
  .of_same rfl (by simp [Ne.symm hm]) (by simp [Ne.symm hx]) rfl rfl rfl id
theorem keeps_setNZ {w : Nat} (s : State) (v : BitVec w) : s.Keeps (s.setNZ v) :=
  .of_same rfl (by simp) (by simp) rfl rfl rfl id
theorem keeps_loadAcc (s : State) (w : Width) (o : Operand) : s.Keeps (s.loadAcc w o) :=
  .of_same (by simp) (by simp) (by simp) (by simp) (by simp) (by simp) (by simp)
theorem keeps_addWithCarry (s : State) (w : Width) (o : Operand) : s.Keeps (s.addWithCarry w o) :=
  .of_same (by simp) (by simp) (by simp) (by simp) (by simp) (by simp) (by simp)
theorem keeps_subWithCarry (s : State) (w : Width) (o : Operand) : s.Keeps (s.subWithCarry w o) :=
  .of_same (by simp) (by simp) (by simp) (by simp) (by simp) (by simp) (by simp)
theorem keeps_andAcc (s : State) (w : Width) (o : Operand) : s.Keeps (s.andAcc w o) :=
  .of_same (by simp) (by simp) (by simp) (by simp) (by simp) (by simp) (by simp)
theorem keeps_orAcc (s : State) (w : Width) (o : Operand) : s.Keeps (s.orAcc w o) :=
  .of_same (by simp) (by simp) (by simp) (by simp) (by simp) (by simp) (by simp)
theorem keeps_xorAcc (s : State) (w : Width) (o : Operand) : s.Keeps (s.xorAcc w o) :=
  .of_same (by simp) (by simp) (by simp) (by simp) (by simp) (by simp) (by simp)
theorem keeps_bitMemory (s : State) (w : Width) (f : MemForm) : s.Keeps (s.bitMemory w f) :=
  .of_same (by simp) (by simp) (by simp) (by simp) (by simp) (by simp) (by simp)
theorem keeps_bitConstant (s : State) (w : Width) (k : Word) : s.Keeps (s.bitConstant w k) :=
  .of_same (by simp) (by simp) (by simp) (by simp) (by simp) (by simp) (by simp)
theorem keeps_compare (s : State) (w : Width) (r : BitVec w.bits) (o : Operand) : s.Keeps (s.compare w r o) :=
  .of_same (by simp) (by simp) (by simp) (by simp) (by simp) (by simp) (by simp)
theorem keeps_transferAcc (s : State) (w : Width) (v : BitVec w.bits) : s.Keeps (s.transferAcc w v) :=
  .of_same (by simp) (by simp) (by simp) (by simp) (by simp) (by simp) (by simp)

/-- X written at the width of x: XH is zero when x = 1 (R22). -/
theorem keeps_setX (s : State) (v : BitVec s.wXY.bits) : s.Keeps (s.setX s.wXY v) :=
  ⟨rfl, by simp, by simp, fun _ h => h, fun hx _ hy => ⟨hi_setWidth_wXY v hx, hy⟩, id⟩

/-- Y written at the width of x: YH is zero when x = 1 (R22). -/
theorem keeps_setY (s : State) (v : BitVec s.wXY.bits) : s.Keeps (s.setY s.wXY v) :=
  ⟨rfl, by simp, by simp, fun _ h => h, fun hx hx' _ => ⟨hx', hi_setWidth_wXY v hx⟩, id⟩

theorem keeps_loadX (s : State) (o : Operand) : s.Keeps (s.loadX s.wXY o) :=
  ((keeps_setX s _).trans (keeps_setNZ _ _)).trans (keeps_advance _ _)
theorem keeps_loadY (s : State) (o : Operand) : s.Keeps (s.loadY s.wXY o) :=
  ((keeps_setY s _).trans (keeps_setNZ _ _)).trans (keeps_advance _ _)
theorem keeps_replaceX (s : State) (v : BitVec s.wXY.bits) : s.Keeps (s.replaceX s.wXY v) :=
  ((keeps_setX s v).trans (keeps_setNZ _ _)).trans (keeps_advance _ _)
theorem keeps_replaceY (s : State) (v : BitVec s.wXY.bits) : s.Keeps (s.replaceY s.wXY v) :=
  ((keeps_setY s v).trans (keeps_setNZ _ _)).trans (keeps_advance _ _)
theorem keeps_transferX (s : State) (v : BitVec s.wXY.bits) : s.Keeps (s.transferX s.wXY v) :=
  ((keeps_setX s v).trans (keeps_setNZ _ _)).trans (keeps_advance _ _)
theorem keeps_transferY (s : State) (v : BitVec s.wXY.bits) : s.Keeps (s.transferY s.wXY v) :=
  ((keeps_setY s v).trans (keeps_setNZ _ _)).trans (keeps_advance _ _)
theorem keeps_setStackPointer (s : State) (v : Word) : s.Keeps (s.setStackPointer v) :=
  ⟨rfl, by simp, by simp, fun he h => by simp [he, h], fun _ a b => ⟨a, b⟩, id⟩

/-! ### Memory -/

theorem keeps_writeByte (s : State) (a : Addr) (v : Byte) : s.Keeps (s.writeByte a v) :=
  .of_same rfl (by simp) (by simp) rfl rfl rfl fun h => writeByte_mem_wf h a v
theorem keeps_store (s : State) (w : Width) (f : MemForm) (v : BitVec w.bits) : s.Keeps (s.store w f v) :=
  .of_same (by simp) (by simp) (by simp) (by simp) (by simp) (by simp) fun h => by
    simp only [State.store, advance_mem]; exact writeOp_mem_wf h _ _ _
theorem keeps_writeBack (s : State) (l : Loc) (w : Width) (v : BitVec w.bits) : s.Keeps (s.writeBack l w v) :=
  .of_same (by simp) (by simp) (by simp) (by simp) (by simp) (by simp) fun h => writeBack_mem_wf h l w v
theorem keeps_targetWrite (s : State) (t : Target) (w : Width) (v : BitVec w.bits) : s.Keeps (t.write s w v) :=
  .of_same (by simp) (by simp) (by simp) (by simp) (by simp) (by simp) fun h => targetWrite_mem_wf h t w v
theorem keeps_testReset (s : State) (w : Width) (f : MemForm) : s.Keeps (s.testReset w f) :=
  ((keeps_setFlag s .z _ (by decide) (by decide)).trans (keeps_writeBack _ _ _ _)).trans (keeps_advance _ _)
theorem keeps_testSet (s : State) (w : Width) (f : MemForm) : s.Keeps (s.testSet w f) :=
  ((keeps_setFlag s .z _ (by decide) (by decide)).trans (keeps_writeBack _ _ _ _)).trans (keeps_advance _ _)
theorem keeps_increment (s : State) (w : Width) (t : Target) : s.Keeps (s.increment w t) :=
  ((keeps_targetWrite s t w _).trans (keeps_setNZ _ _)).trans (keeps_advance _ _)
theorem keeps_decrement (s : State) (w : Width) (t : Target) : s.Keeps (s.decrement w t) :=
  ((keeps_targetWrite s t w _).trans (keeps_setNZ _ _)).trans (keeps_advance _ _)
theorem keeps_setShiftFlags {w : Nat} (s : State) (o : ShiftOutcome w) : s.Keeps (s.setShiftFlags o) :=
  .of_same rfl (by simp) (by simp) rfl rfl rfl id
theorem keeps_shiftTarget (s : State) (w : Width) (t : Target) (o : ShiftOutcome w.bits) :
    s.Keeps (s.shiftTarget w t o) :=
  ((keeps_targetWrite s t w _).trans (keeps_setShiftFlags _ _)).trans (keeps_advance _ _)
theorem keeps_blockMove (s : State) (k : Word) (src dest : Byte) : s.Keeps (s.blockMove k src dest) :=
  ⟨by simp, by simp, by simp, fun _ h => by simpa using h, fun hx _ _ => by simp [State.blockMove, State.wXY, hx],
    fun h => by simp only [State.blockMove]; exact writeByte_mem_wf h _ _⟩

/-! ### The stack -/

theorem keeps_moveStack_page (s : State) (k : Word) : s.Keeps (s.moveStack .page k) :=
  ⟨rfl, by simp, by simp, fun he h => by simp [he, h], fun _ a b => ⟨a, b⟩, id⟩
theorem keeps_push8 (s : State) (v : Byte) : s.Keeps (s.push8 .page v) :=
  (keeps_writeByte s _ v).trans (keeps_moveStack_page _ _)
theorem keeps_push16 (s : State) (v : Word) : s.Keeps (s.push16 .page v) :=
  (keeps_push8 s _).trans (keeps_push8 _ _)
theorem keeps_pushAtWidth (s : State) (w : Width) (v : BitVec w.bits) : s.Keeps (s.pushAtWidth w v) := by
  refine State.Keeps.trans ?_ (keeps_advance _ _)
  cases w
  · exact keeps_push8 s _
  · exact keeps_push16 s _
theorem keeps_pull8 (s : State) : s.Keeps (s.pull8 .page).2 := keeps_moveStack_page s _
theorem keeps_pull16 (s : State) : s.Keeps (s.pull16 .page).2 := (keeps_pull8 s).trans (keeps_pull8 _)
theorem keeps_pullReg (s : State) (w : Width) : s.Keeps (s.pullReg w).2 := by
  cases w
  · exact keeps_pull8 s
  · exact keeps_pull16 s

/-- An instruction that moves S freely and forces SH at its end keeps the invariant (R311). -/
theorem keeps_restoreStackPage {s t : State} (he : t.e = s.e) (hm : t.flag .m = s.flag .m) (hx : t.flag .x = s.flag .x)
    (h1 : t.x = s.x) (h2 : t.y = s.y) (hw : s.mem.wf = true → t.mem.wf = true) : s.Keeps t.restoreStackPage :=
  ⟨he, by simpa using hm, by simpa using hx, fun h _ => by simp [he, h], fun _ a b => by simp [h1, h2, a, b], hw⟩

theorem keeps_pushWide (s : State) (v : Word) (n : Nat) : s.Keeps (s.pushWide v n) :=
  (keeps_restoreStackPage (by simp) (by simp) (by simp) (by simp) (by simp) fun h => push16_mem_wf h _ _).trans
    (keeps_advance _ _)
theorem keeps_pushReturn (s : State) (n : Nat) : s.Keeps (s.pushReturn .page n) := keeps_push16 s _

/-- A trap keeps the invariant (R346, R347). -/
theorem keeps_takeTrap (s : State) (k : TrapCause) (ret : Word) : s.Keeps (s.takeTrap k ret) := by
  refine ⟨by simp, by simp, by simp, fun he h => ?_, fun _ a b => by simp [a, b], fun h => takeTrap_mem_wf h k ret⟩
  rw [takeTrap_sp, pushTrapFrame_emulation he]
  exact (((keeps_push8 s _).trans (keeps_push8 _ _)).trans (keeps_push8 _ _)).stack he h

/-- Every write of P followed by rule R325 leaves the invariant true. -/
theorem inv_writeP {s : State} (h : s.mem.wf = true) (v : Byte) : (s.writeP v).Inv :=
  State.Inv.mk' (writeP_modeInv s v) h

end Sys2Proof.Machine
end

