-- ==== Sys2Proof/Laws/PerInstr.lean ====
section
/-! SUPPORT. Statements about every instruction, made per instruction. -/

namespace Sys2Proof.Laws.EncodedLength

/-- The encoder writes as many bytes as the instruction's format has under m and x (R91, R92). -/
def Statement (i : Instr) : Prop := ∀ m x : Bool, (encode m x i).length = i.length m x

theorem brk (signature : Byte) : Statement (.brk signature) := fun _ _ => rfl
theorem oraIndDpX (dp : Byte) : Statement (.oraIndDpX dp) := fun _ _ => rfl
theorem cop (signature : Byte) : Statement (.cop signature) := fun _ _ => rfl
theorem oraSr (sr : Byte) : Statement (.oraSr sr) := fun _ _ => rfl
theorem tsbDp (dp : Byte) : Statement (.tsbDp dp) := fun _ _ => rfl
theorem oraDp (dp : Byte) : Statement (.oraDp dp) := fun _ _ => rfl
theorem aslDp (dp : Byte) : Statement (.aslDp dp) := fun _ _ => rfl
theorem oraLongIndDp (dp : Byte) : Statement (.oraLongIndDp dp) := fun _ _ => rfl
theorem php : Statement .php := fun _ _ => rfl
theorem oraConst (const : Word) : Statement (.oraConst const) := fun m _ => by cases m <;> rfl
theorem aslAcc : Statement .aslAcc := fun _ _ => rfl
theorem phd : Statement .phd := fun _ _ => rfl
theorem tsbAddr (addr : Word) : Statement (.tsbAddr addr) := fun _ _ => rfl
theorem oraAddr (addr : Word) : Statement (.oraAddr addr) := fun _ _ => rfl
theorem aslAddr (addr : Word) : Statement (.aslAddr addr) := fun _ _ => rfl
theorem oraLong (long : Addr) : Statement (.oraLong long) := fun _ _ => rfl
theorem bpl (disp : Byte) : Statement (.bpl disp) := fun _ _ => rfl
theorem oraIndDpY (dp : Byte) : Statement (.oraIndDpY dp) := fun _ _ => rfl
theorem oraIndDp (dp : Byte) : Statement (.oraIndDp dp) := fun _ _ => rfl
theorem oraIndSrY (sr : Byte) : Statement (.oraIndSrY sr) := fun _ _ => rfl
theorem trbDp (dp : Byte) : Statement (.trbDp dp) := fun _ _ => rfl
theorem oraDpX (dp : Byte) : Statement (.oraDpX dp) := fun _ _ => rfl
theorem aslDpX (dp : Byte) : Statement (.aslDpX dp) := fun _ _ => rfl
theorem oraLongIndDpY (dp : Byte) : Statement (.oraLongIndDpY dp) := fun _ _ => rfl
theorem clc : Statement .clc := fun _ _ => rfl
theorem oraAddrY (addr : Word) : Statement (.oraAddrY addr) := fun _ _ => rfl
theorem incAcc : Statement .incAcc := fun _ _ => rfl
theorem tcs : Statement .tcs := fun _ _ => rfl
theorem trbAddr (addr : Word) : Statement (.trbAddr addr) := fun _ _ => rfl
theorem oraAddrX (addr : Word) : Statement (.oraAddrX addr) := fun _ _ => rfl
theorem aslAddrX (addr : Word) : Statement (.aslAddrX addr) := fun _ _ => rfl
theorem oraLongX (long : Addr) : Statement (.oraLongX long) := fun _ _ => rfl
theorem jsrAddr (addr : Word) : Statement (.jsrAddr addr) := fun _ _ => rfl
theorem andIndDpX (dp : Byte) : Statement (.andIndDpX dp) := fun _ _ => rfl
theorem jsl (long : Addr) : Statement (.jsl long) := fun _ _ => rfl
theorem andSr (sr : Byte) : Statement (.andSr sr) := fun _ _ => rfl
theorem bitDp (dp : Byte) : Statement (.bitDp dp) := fun _ _ => rfl
theorem andDp (dp : Byte) : Statement (.andDp dp) := fun _ _ => rfl
theorem rolDp (dp : Byte) : Statement (.rolDp dp) := fun _ _ => rfl
theorem andLongIndDp (dp : Byte) : Statement (.andLongIndDp dp) := fun _ _ => rfl
theorem plp : Statement .plp := fun _ _ => rfl
theorem andConst (const : Word) : Statement (.andConst const) := fun m _ => by cases m <;> rfl
theorem rolAcc : Statement .rolAcc := fun _ _ => rfl
theorem pld : Statement .pld := fun _ _ => rfl
theorem bitAddr (addr : Word) : Statement (.bitAddr addr) := fun _ _ => rfl
theorem andAddr (addr : Word) : Statement (.andAddr addr) := fun _ _ => rfl
theorem rolAddr (addr : Word) : Statement (.rolAddr addr) := fun _ _ => rfl
theorem andLong (long : Addr) : Statement (.andLong long) := fun _ _ => rfl
theorem bmi (disp : Byte) : Statement (.bmi disp) := fun _ _ => rfl
theorem andIndDpY (dp : Byte) : Statement (.andIndDpY dp) := fun _ _ => rfl
theorem andIndDp (dp : Byte) : Statement (.andIndDp dp) := fun _ _ => rfl
theorem andIndSrY (sr : Byte) : Statement (.andIndSrY sr) := fun _ _ => rfl
theorem bitDpX (dp : Byte) : Statement (.bitDpX dp) := fun _ _ => rfl
theorem andDpX (dp : Byte) : Statement (.andDpX dp) := fun _ _ => rfl
theorem rolDpX (dp : Byte) : Statement (.rolDpX dp) := fun _ _ => rfl
theorem andLongIndDpY (dp : Byte) : Statement (.andLongIndDpY dp) := fun _ _ => rfl
theorem sec : Statement .sec := fun _ _ => rfl
theorem andAddrY (addr : Word) : Statement (.andAddrY addr) := fun _ _ => rfl
theorem decAcc : Statement .decAcc := fun _ _ => rfl
theorem tsc : Statement .tsc := fun _ _ => rfl
theorem bitAddrX (addr : Word) : Statement (.bitAddrX addr) := fun _ _ => rfl
theorem andAddrX (addr : Word) : Statement (.andAddrX addr) := fun _ _ => rfl
theorem rolAddrX (addr : Word) : Statement (.rolAddrX addr) := fun _ _ => rfl
theorem andLongX (long : Addr) : Statement (.andLongX long) := fun _ _ => rfl
theorem rti : Statement .rti := fun _ _ => rfl
theorem eorIndDpX (dp : Byte) : Statement (.eorIndDpX dp) := fun _ _ => rfl
theorem wdm (signature : Byte) : Statement (.wdm signature) := fun _ _ => rfl
theorem eorSr (sr : Byte) : Statement (.eorSr sr) := fun _ _ => rfl
theorem mvp (src : Byte) (dest : Byte) : Statement (.mvp src dest) := fun _ _ => rfl
theorem eorDp (dp : Byte) : Statement (.eorDp dp) := fun _ _ => rfl
theorem lsrDp (dp : Byte) : Statement (.lsrDp dp) := fun _ _ => rfl
theorem eorLongIndDp (dp : Byte) : Statement (.eorLongIndDp dp) := fun _ _ => rfl
theorem pha : Statement .pha := fun _ _ => rfl
theorem eorConst (const : Word) : Statement (.eorConst const) := fun m _ => by cases m <;> rfl
theorem lsrAcc : Statement .lsrAcc := fun _ _ => rfl
theorem phk : Statement .phk := fun _ _ => rfl
theorem jmpAddr (addr : Word) : Statement (.jmpAddr addr) := fun _ _ => rfl
theorem eorAddr (addr : Word) : Statement (.eorAddr addr) := fun _ _ => rfl
theorem lsrAddr (addr : Word) : Statement (.lsrAddr addr) := fun _ _ => rfl
theorem eorLong (long : Addr) : Statement (.eorLong long) := fun _ _ => rfl
theorem bvc (disp : Byte) : Statement (.bvc disp) := fun _ _ => rfl
theorem eorIndDpY (dp : Byte) : Statement (.eorIndDpY dp) := fun _ _ => rfl
theorem eorIndDp (dp : Byte) : Statement (.eorIndDp dp) := fun _ _ => rfl
theorem eorIndSrY (sr : Byte) : Statement (.eorIndSrY sr) := fun _ _ => rfl
theorem mvn (src : Byte) (dest : Byte) : Statement (.mvn src dest) := fun _ _ => rfl
theorem eorDpX (dp : Byte) : Statement (.eorDpX dp) := fun _ _ => rfl
theorem lsrDpX (dp : Byte) : Statement (.lsrDpX dp) := fun _ _ => rfl
theorem eorLongIndDpY (dp : Byte) : Statement (.eorLongIndDpY dp) := fun _ _ => rfl
theorem cli : Statement .cli := fun _ _ => rfl
theorem eorAddrY (addr : Word) : Statement (.eorAddrY addr) := fun _ _ => rfl
theorem phy : Statement .phy := fun _ _ => rfl
theorem tcd : Statement .tcd := fun _ _ => rfl
theorem jmpLong (long : Addr) : Statement (.jmpLong long) := fun _ _ => rfl
theorem eorAddrX (addr : Word) : Statement (.eorAddrX addr) := fun _ _ => rfl
theorem lsrAddrX (addr : Word) : Statement (.lsrAddrX addr) := fun _ _ => rfl
theorem eorLongX (long : Addr) : Statement (.eorLongX long) := fun _ _ => rfl
theorem rts : Statement .rts := fun _ _ => rfl
theorem adcIndDpX (dp : Byte) : Statement (.adcIndDpX dp) := fun _ _ => rfl
theorem per (disp : Word) : Statement (.per disp) := fun _ _ => rfl
theorem adcSr (sr : Byte) : Statement (.adcSr sr) := fun _ _ => rfl
theorem stzDp (dp : Byte) : Statement (.stzDp dp) := fun _ _ => rfl
theorem adcDp (dp : Byte) : Statement (.adcDp dp) := fun _ _ => rfl
theorem rorDp (dp : Byte) : Statement (.rorDp dp) := fun _ _ => rfl
theorem adcLongIndDp (dp : Byte) : Statement (.adcLongIndDp dp) := fun _ _ => rfl
theorem pla : Statement .pla := fun _ _ => rfl
theorem adcConst (const : Word) : Statement (.adcConst const) := fun m _ => by cases m <;> rfl
theorem rorAcc : Statement .rorAcc := fun _ _ => rfl
theorem rtl : Statement .rtl := fun _ _ => rfl
theorem jmpIndAddr (addr : Word) : Statement (.jmpIndAddr addr) := fun _ _ => rfl
theorem adcAddr (addr : Word) : Statement (.adcAddr addr) := fun _ _ => rfl
theorem rorAddr (addr : Word) : Statement (.rorAddr addr) := fun _ _ => rfl
theorem adcLong (long : Addr) : Statement (.adcLong long) := fun _ _ => rfl
theorem bvs (disp : Byte) : Statement (.bvs disp) := fun _ _ => rfl
theorem adcIndDpY (dp : Byte) : Statement (.adcIndDpY dp) := fun _ _ => rfl
theorem adcIndDp (dp : Byte) : Statement (.adcIndDp dp) := fun _ _ => rfl
theorem adcIndSrY (sr : Byte) : Statement (.adcIndSrY sr) := fun _ _ => rfl
theorem stzDpX (dp : Byte) : Statement (.stzDpX dp) := fun _ _ => rfl
theorem adcDpX (dp : Byte) : Statement (.adcDpX dp) := fun _ _ => rfl
theorem rorDpX (dp : Byte) : Statement (.rorDpX dp) := fun _ _ => rfl
theorem adcLongIndDpY (dp : Byte) : Statement (.adcLongIndDpY dp) := fun _ _ => rfl
theorem sei : Statement .sei := fun _ _ => rfl
theorem adcAddrY (addr : Word) : Statement (.adcAddrY addr) := fun _ _ => rfl
theorem ply : Statement .ply := fun _ _ => rfl
theorem tdc : Statement .tdc := fun _ _ => rfl
theorem jmpIndAddrX (addr : Word) : Statement (.jmpIndAddrX addr) := fun _ _ => rfl
theorem adcAddrX (addr : Word) : Statement (.adcAddrX addr) := fun _ _ => rfl
theorem rorAddrX (addr : Word) : Statement (.rorAddrX addr) := fun _ _ => rfl
theorem adcLongX (long : Addr) : Statement (.adcLongX long) := fun _ _ => rfl
theorem bra (disp : Byte) : Statement (.bra disp) := fun _ _ => rfl
theorem staIndDpX (dp : Byte) : Statement (.staIndDpX dp) := fun _ _ => rfl
theorem brl (disp : Word) : Statement (.brl disp) := fun _ _ => rfl
theorem staSr (sr : Byte) : Statement (.staSr sr) := fun _ _ => rfl
theorem styDp (dp : Byte) : Statement (.styDp dp) := fun _ _ => rfl
theorem staDp (dp : Byte) : Statement (.staDp dp) := fun _ _ => rfl
theorem stxDp (dp : Byte) : Statement (.stxDp dp) := fun _ _ => rfl
theorem staLongIndDp (dp : Byte) : Statement (.staLongIndDp dp) := fun _ _ => rfl
theorem dey : Statement .dey := fun _ _ => rfl
theorem bitConst (const : Word) : Statement (.bitConst const) := fun m _ => by cases m <;> rfl
theorem txa : Statement .txa := fun _ _ => rfl
theorem phb : Statement .phb := fun _ _ => rfl
theorem styAddr (addr : Word) : Statement (.styAddr addr) := fun _ _ => rfl
theorem staAddr (addr : Word) : Statement (.staAddr addr) := fun _ _ => rfl
theorem stxAddr (addr : Word) : Statement (.stxAddr addr) := fun _ _ => rfl
theorem staLong (long : Addr) : Statement (.staLong long) := fun _ _ => rfl
theorem bcc (disp : Byte) : Statement (.bcc disp) := fun _ _ => rfl
theorem staIndDpY (dp : Byte) : Statement (.staIndDpY dp) := fun _ _ => rfl
theorem staIndDp (dp : Byte) : Statement (.staIndDp dp) := fun _ _ => rfl
theorem staIndSrY (sr : Byte) : Statement (.staIndSrY sr) := fun _ _ => rfl
theorem styDpX (dp : Byte) : Statement (.styDpX dp) := fun _ _ => rfl
theorem staDpX (dp : Byte) : Statement (.staDpX dp) := fun _ _ => rfl
theorem stxDpY (dp : Byte) : Statement (.stxDpY dp) := fun _ _ => rfl
theorem staLongIndDpY (dp : Byte) : Statement (.staLongIndDpY dp) := fun _ _ => rfl
theorem tya : Statement .tya := fun _ _ => rfl
theorem staAddrY (addr : Word) : Statement (.staAddrY addr) := fun _ _ => rfl
theorem txs : Statement .txs := fun _ _ => rfl
theorem txy : Statement .txy := fun _ _ => rfl
theorem stzAddr (addr : Word) : Statement (.stzAddr addr) := fun _ _ => rfl
theorem staAddrX (addr : Word) : Statement (.staAddrX addr) := fun _ _ => rfl
theorem stzAddrX (addr : Word) : Statement (.stzAddrX addr) := fun _ _ => rfl
theorem staLongX (long : Addr) : Statement (.staLongX long) := fun _ _ => rfl
theorem ldyConst (const : Word) : Statement (.ldyConst const) := fun _ x => by cases x <;> rfl
theorem ldaIndDpX (dp : Byte) : Statement (.ldaIndDpX dp) := fun _ _ => rfl
theorem ldxConst (const : Word) : Statement (.ldxConst const) := fun _ x => by cases x <;> rfl
theorem ldaSr (sr : Byte) : Statement (.ldaSr sr) := fun _ _ => rfl
theorem ldyDp (dp : Byte) : Statement (.ldyDp dp) := fun _ _ => rfl
theorem ldaDp (dp : Byte) : Statement (.ldaDp dp) := fun _ _ => rfl
theorem ldxDp (dp : Byte) : Statement (.ldxDp dp) := fun _ _ => rfl
theorem ldaLongIndDp (dp : Byte) : Statement (.ldaLongIndDp dp) := fun _ _ => rfl
theorem tay : Statement .tay := fun _ _ => rfl
theorem ldaConst (const : Word) : Statement (.ldaConst const) := fun m _ => by cases m <;> rfl
theorem tax : Statement .tax := fun _ _ => rfl
theorem plb : Statement .plb := fun _ _ => rfl
theorem ldyAddr (addr : Word) : Statement (.ldyAddr addr) := fun _ _ => rfl
theorem ldaAddr (addr : Word) : Statement (.ldaAddr addr) := fun _ _ => rfl
theorem ldxAddr (addr : Word) : Statement (.ldxAddr addr) := fun _ _ => rfl
theorem ldaLong (long : Addr) : Statement (.ldaLong long) := fun _ _ => rfl
theorem bcs (disp : Byte) : Statement (.bcs disp) := fun _ _ => rfl
theorem ldaIndDpY (dp : Byte) : Statement (.ldaIndDpY dp) := fun _ _ => rfl
theorem ldaIndDp (dp : Byte) : Statement (.ldaIndDp dp) := fun _ _ => rfl
theorem ldaIndSrY (sr : Byte) : Statement (.ldaIndSrY sr) := fun _ _ => rfl
theorem ldyDpX (dp : Byte) : Statement (.ldyDpX dp) := fun _ _ => rfl
theorem ldaDpX (dp : Byte) : Statement (.ldaDpX dp) := fun _ _ => rfl
theorem ldxDpY (dp : Byte) : Statement (.ldxDpY dp) := fun _ _ => rfl
theorem ldaLongIndDpY (dp : Byte) : Statement (.ldaLongIndDpY dp) := fun _ _ => rfl
theorem clv : Statement .clv := fun _ _ => rfl
theorem ldaAddrY (addr : Word) : Statement (.ldaAddrY addr) := fun _ _ => rfl
theorem tsx : Statement .tsx := fun _ _ => rfl
theorem tyx : Statement .tyx := fun _ _ => rfl
theorem ldyAddrX (addr : Word) : Statement (.ldyAddrX addr) := fun _ _ => rfl
theorem ldaAddrX (addr : Word) : Statement (.ldaAddrX addr) := fun _ _ => rfl
theorem ldxAddrY (addr : Word) : Statement (.ldxAddrY addr) := fun _ _ => rfl
theorem ldaLongX (long : Addr) : Statement (.ldaLongX long) := fun _ _ => rfl
theorem cpyConst (const : Word) : Statement (.cpyConst const) := fun _ x => by cases x <;> rfl
theorem cmpIndDpX (dp : Byte) : Statement (.cmpIndDpX dp) := fun _ _ => rfl
theorem rep (const : Byte) : Statement (.rep const) := fun _ _ => rfl
theorem cmpSr (sr : Byte) : Statement (.cmpSr sr) := fun _ _ => rfl
theorem cpyDp (dp : Byte) : Statement (.cpyDp dp) := fun _ _ => rfl
theorem cmpDp (dp : Byte) : Statement (.cmpDp dp) := fun _ _ => rfl
theorem decDp (dp : Byte) : Statement (.decDp dp) := fun _ _ => rfl
theorem cmpLongIndDp (dp : Byte) : Statement (.cmpLongIndDp dp) := fun _ _ => rfl
theorem iny : Statement .iny := fun _ _ => rfl
theorem cmpConst (const : Word) : Statement (.cmpConst const) := fun m _ => by cases m <;> rfl
theorem dex : Statement .dex := fun _ _ => rfl
theorem wai : Statement .wai := fun _ _ => rfl
theorem cpyAddr (addr : Word) : Statement (.cpyAddr addr) := fun _ _ => rfl
theorem cmpAddr (addr : Word) : Statement (.cmpAddr addr) := fun _ _ => rfl
theorem decAddr (addr : Word) : Statement (.decAddr addr) := fun _ _ => rfl
theorem cmpLong (long : Addr) : Statement (.cmpLong long) := fun _ _ => rfl
theorem bne (disp : Byte) : Statement (.bne disp) := fun _ _ => rfl
theorem cmpIndDpY (dp : Byte) : Statement (.cmpIndDpY dp) := fun _ _ => rfl
theorem cmpIndDp (dp : Byte) : Statement (.cmpIndDp dp) := fun _ _ => rfl
theorem cmpIndSrY (sr : Byte) : Statement (.cmpIndSrY sr) := fun _ _ => rfl
theorem pei (dp : Byte) : Statement (.pei dp) := fun _ _ => rfl
theorem cmpDpX (dp : Byte) : Statement (.cmpDpX dp) := fun _ _ => rfl
theorem decDpX (dp : Byte) : Statement (.decDpX dp) := fun _ _ => rfl
theorem cmpLongIndDpY (dp : Byte) : Statement (.cmpLongIndDpY dp) := fun _ _ => rfl
theorem cld : Statement .cld := fun _ _ => rfl
theorem cmpAddrY (addr : Word) : Statement (.cmpAddrY addr) := fun _ _ => rfl
theorem phx : Statement .phx := fun _ _ => rfl
theorem stp : Statement .stp := fun _ _ => rfl
theorem jmpLongIndAddr (addr : Word) : Statement (.jmpLongIndAddr addr) := fun _ _ => rfl
theorem cmpAddrX (addr : Word) : Statement (.cmpAddrX addr) := fun _ _ => rfl
theorem decAddrX (addr : Word) : Statement (.decAddrX addr) := fun _ _ => rfl
theorem cmpLongX (long : Addr) : Statement (.cmpLongX long) := fun _ _ => rfl
theorem cpxConst (const : Word) : Statement (.cpxConst const) := fun _ x => by cases x <;> rfl
theorem sbcIndDpX (dp : Byte) : Statement (.sbcIndDpX dp) := fun _ _ => rfl
theorem sep (const : Byte) : Statement (.sep const) := fun _ _ => rfl
theorem sbcSr (sr : Byte) : Statement (.sbcSr sr) := fun _ _ => rfl
theorem cpxDp (dp : Byte) : Statement (.cpxDp dp) := fun _ _ => rfl
theorem sbcDp (dp : Byte) : Statement (.sbcDp dp) := fun _ _ => rfl
theorem incDp (dp : Byte) : Statement (.incDp dp) := fun _ _ => rfl
theorem sbcLongIndDp (dp : Byte) : Statement (.sbcLongIndDp dp) := fun _ _ => rfl
theorem inx : Statement .inx := fun _ _ => rfl
theorem sbcConst (const : Word) : Statement (.sbcConst const) := fun m _ => by cases m <;> rfl
theorem nop : Statement .nop := fun _ _ => rfl
theorem xba : Statement .xba := fun _ _ => rfl
theorem cpxAddr (addr : Word) : Statement (.cpxAddr addr) := fun _ _ => rfl
theorem sbcAddr (addr : Word) : Statement (.sbcAddr addr) := fun _ _ => rfl
theorem incAddr (addr : Word) : Statement (.incAddr addr) := fun _ _ => rfl
theorem sbcLong (long : Addr) : Statement (.sbcLong long) := fun _ _ => rfl
theorem beq (disp : Byte) : Statement (.beq disp) := fun _ _ => rfl
theorem sbcIndDpY (dp : Byte) : Statement (.sbcIndDpY dp) := fun _ _ => rfl
theorem sbcIndDp (dp : Byte) : Statement (.sbcIndDp dp) := fun _ _ => rfl
theorem sbcIndSrY (sr : Byte) : Statement (.sbcIndSrY sr) := fun _ _ => rfl
theorem pea (const : Word) : Statement (.pea const) := fun _ _ => rfl
theorem sbcDpX (dp : Byte) : Statement (.sbcDpX dp) := fun _ _ => rfl
theorem incDpX (dp : Byte) : Statement (.incDpX dp) := fun _ _ => rfl
theorem sbcLongIndDpY (dp : Byte) : Statement (.sbcLongIndDpY dp) := fun _ _ => rfl
theorem sed : Statement .sed := fun _ _ => rfl
theorem sbcAddrY (addr : Word) : Statement (.sbcAddrY addr) := fun _ _ => rfl
theorem plx : Statement .plx := fun _ _ => rfl
theorem xce : Statement .xce := fun _ _ => rfl
theorem jsrIndAddrX (addr : Word) : Statement (.jsrIndAddrX addr) := fun _ _ => rfl
theorem sbcAddrX (addr : Word) : Statement (.sbcAddrX addr) := fun _ _ => rfl
theorem incAddrX (addr : Word) : Statement (.incAddrX addr) := fun _ _ => rfl
theorem sbcLongX (long : Addr) : Statement (.sbcLongX long) := fun _ _ => rfl

end Sys2Proof.Laws.EncodedLength
end

