-- ==== Sys2Proof/Laws/Step.lean ====
section
/-! SUPPORT. What a step can do, said once: the six ways to a next state, and the one way to a refusal. -/

namespace Sys2Proof.Machine

/-- The state in which a step looks at its inputs: the sample used up, the NMI edge latched (R344). -/
def State.sampled (s : State) : State := s.beginStep.latchNmi s.currentInputs

theorem State.currentInputs_eq (s : State) : s.currentInputs = s.inputs.headD Inputs.inactive := rfl

theorem State.beginStep_eq (s : State) :
    s.beginStep = { s with inputs := s.inputs.tail, drawCount := s.drawCount + 1 } := rfl

@[simp] theorem sampled_flag (s : State) (f : Flag) : s.sampled.flag f = s.flag f := rfl
@[simp] theorem sampled_run (s : State) : s.sampled.run = s.run := rfl
@[simp] theorem sampled_e (s : State) : s.sampled.e = s.e := rfl
@[simp] theorem sampled_nmiPending (s : State) : s.sampled.nmiPending = (s.nmiPending || s.currentInputs.nmiEdge) := rfl

/-- With no NMI latched and no edge, sampling only uses the sample up. -/
theorem sampled_eq_beginStep {s : State} (h : (s.nmiPending || s.currentInputs.nmiEdge) = false) :
    s.sampled = s.beginStep := by
  have h' := h
  rw [Bool.or_eq_false_iff] at h'
  unfold State.sampled State.latchNmi
  rw [show s.beginStep.nmiPending = s.nmiPending from rfl, h, ← h'.1]
  rfl

theorem step_reset {s : State} (h : s.currentInputs.reset = true) : step s = .next s.beginStep.resetSequence := by
  simp [step, State.boundary, h]

theorem step_stopped {s : State} (h : s.currentInputs.reset = false) (hr : s.run = .stopped) :
    step s = .next s.beginStep := by
  simp [step, State.boundary, h, hr]

/-- A step that is neither a reset nor stopped is the look at the inputs. -/
theorem step_looks {s : State} (h : s.currentInputs.reset = false) (hr : s.run ≠ .stopped) :
    step s = (match s.sampled.look s.currentInputs with
      | .answer r => r
      | .execute t => exec t.fetchInstr t) := by
  simp only [step, State.boundary, h, Bool.false_eq_true, if_false, show s.beginStep.run = s.run from rfl, hr]
  rfl

theorem step_abort {s : State} (h : s.currentInputs.reset = false) (hr : s.run ≠ .stopped)
    (ha : s.currentInputs.abort = true) : step s = .refused .abortAsserted := by
  rw [step_looks h hr]; simp [State.look, ha]

theorem step_nmi {s : State} (h : s.currentInputs.reset = false) (hr : s.run ≠ .stopped)
    (ha : s.currentInputs.abort = false) (hn : (s.nmiPending || s.currentInputs.nmiEdge) = true) :
    step s = .next (State.takeInterrupt { s.beginStep with nmiPending := false } .nmi) := by
  rw [step_looks h hr]
  simp only [State.look, ha, Bool.false_eq_true, if_false, sampled_nmiPending, hn, if_true]
  rfl

theorem step_irq {s : State} (h : s.currentInputs.reset = false) (hr : s.run ≠ .stopped)
    (ha : s.currentInputs.abort = false) (hn : (s.nmiPending || s.currentInputs.nmiEdge) = false)
    (hi : s.currentInputs.irq = true) (hf : s.flag .i = false) :
    step s = .next (s.beginStep.takeInterrupt .irq) := by
  rw [step_looks h hr, sampled_eq_beginStep hn]
  simp only [State.look, ha, Bool.false_eq_true, if_false, beginStep_nmiPending, (Bool.or_eq_false_iff.1 hn).1, hi,
    beginStep_flag, hf, Bool.not_false, Bool.and_self, if_true]

/-- No trap is due: nothing that R344 would take is asserted. -/
def State.NoTrap (s : State) : Prop :=
  s.currentInputs.abort = false ∧ (s.nmiPending || s.currentInputs.nmiEdge) = false ∧
    (s.currentInputs.irq = true → s.flag .i = true)

theorem step_waiting {s : State} (h : s.currentInputs.reset = false) (hr : s.run = .waiting) (hn : s.NoTrap) :
    step s = .next (if s.currentInputs.irq then { s.beginStep with run := .running } else s.beginStep) := by
  rw [step_looks h (by simp [hr]), sampled_eq_beginStep hn.2.1]
  have hi : (s.currentInputs.irq && !s.flag .i) = false := by
    cases hq : s.currentInputs.irq
    · rfl
    · simp [hn.2.2 hq]
  simp only [State.look, hn.1, Bool.false_eq_true, if_false, beginStep_nmiPending, (Bool.or_eq_false_iff.1 hn.2.1).1,
    beginStep_flag, hi, beginStep_run, hr, if_true]

theorem step_runs {s : State} (h : s.currentInputs.reset = false) (hr : s.run = .running) (hn : s.NoTrap) :
    step s = exec s.beginStep.fetchInstr s.beginStep := by
  rw [step_looks h (by simp [hr]), sampled_eq_beginStep hn.2.1]
  have hi : (s.currentInputs.irq && !s.flag .i) = false := by
    cases hq : s.currentInputs.irq
    · rfl
    · simp [hn.2.2 hq]
  simp only [State.look, hn.1, Bool.false_eq_true, if_false, beginStep_nmiPending, (Bool.or_eq_false_iff.1 hn.2.1).1,
    beginStep_flag, hi, beginStep_run, hr, reduceCtorEq]

/-- The ways a step reaches a next state: a reset, stopped, an NMI, an IRQ, waiting, or one instruction (R7, R344). -/
theorem step_cases {s t : State} (h : step s = .next t) :
    (s.currentInputs.reset = true ∧ t = s.beginStep.resetSequence) ∨
    (s.currentInputs.reset = false ∧ s.run = .stopped ∧ t = s.beginStep) ∨
    (s.currentInputs.reset = false ∧ s.run ≠ .stopped ∧ (s.nmiPending || s.currentInputs.nmiEdge) = true ∧
      t = State.takeInterrupt { s.beginStep with nmiPending := false } .nmi) ∨
    (s.currentInputs.reset = false ∧ s.run ≠ .stopped ∧ s.currentInputs.irq = true ∧ s.flag .i = false ∧
      t = s.beginStep.takeInterrupt .irq) ∨
    (s.currentInputs.reset = false ∧ s.run = .waiting ∧ s.NoTrap ∧
      t = if s.currentInputs.irq then { s.beginStep with run := .running } else s.beginStep) ∨
    (s.currentInputs.reset = false ∧ s.run = .running ∧ s.NoTrap ∧
      exec s.beginStep.fetchInstr s.beginStep = .next t) := by
  cases hr : s.currentInputs.reset
  case true => rw [step_reset hr] at h; exact .inl ⟨rfl, (Host.Outcome.next.inj h).symm⟩
  refine .inr ?_
  by_cases hs : s.run = .stopped
  · rw [step_stopped hr hs] at h; exact .inl ⟨rfl, hs, (Host.Outcome.next.inj h).symm⟩
  refine .inr ?_
  cases ha : s.currentInputs.abort
  case true => rw [step_abort hr hs ha] at h; cases h
  cases hn : (s.nmiPending || s.currentInputs.nmiEdge)
  case true => rw [step_nmi hr hs ha hn] at h; exact .inl ⟨rfl, hs, rfl, (Host.Outcome.next.inj h).symm⟩
  refine .inr ?_
  by_cases hi : s.currentInputs.irq = true ∧ s.flag .i = false
  · rw [step_irq hr hs ha hn hi.1 hi.2] at h; exact .inl ⟨rfl, hs, hi.1, hi.2, (Host.Outcome.next.inj h).symm⟩
  refine .inr ?_
  have hno : s.NoTrap := ⟨ha, hn, fun hq => by
    cases hf : s.flag .i
    · exact absurd ⟨hq, hf⟩ hi
    · rfl⟩
  cases hrun : s.run
  case stopped => exact absurd hrun hs
  case waiting => rw [step_waiting hr hrun hno] at h; exact .inl ⟨rfl, rfl, hno, (Host.Outcome.next.inj h).symm⟩
  case running => rw [step_runs hr hrun hno] at h; exact .inr ⟨rfl, rfl, hno, h⟩

end Sys2Proof.Machine
end

