-- ==== Sys2Proof/Tests/Slice0.lean ====
section
/-! SUPPORT. The model's own tests: ill-formed terms are refused, words written out from the spec's encodings decode to
their instructions, the spec's vectors (95_test_vectors.md) hold for one step, and the hypotheses of every statement
are met by a concrete state. -/

namespace Sys2Proof.Tests

open Machine Claims

/-! ### Well-formedness (R98) -/

theorem test_illFormed_oraConst : Instr.wellFormed true false (.oraConst 0x0100#16) = false := by decide
theorem test_illFormed_andConst : Instr.wellFormed true false (.andConst 0x0101#16) = false := by decide
theorem test_illFormed_eorConst : Instr.wellFormed true false (.eorConst 0x0102#16) = false := by decide
theorem test_illFormed_adcConst : Instr.wellFormed true false (.adcConst 0x0103#16) = false := by decide
theorem test_illFormed_bitConst : Instr.wellFormed true false (.bitConst 0x0104#16) = false := by decide
theorem test_illFormed_ldaConst : Instr.wellFormed true false (.ldaConst 0x0105#16) = false := by decide
theorem test_illFormed_cmpConst : Instr.wellFormed true false (.cmpConst 0x0106#16) = false := by decide
theorem test_illFormed_sbcConst : Instr.wellFormed true false (.sbcConst 0x0107#16) = false := by decide
theorem test_illFormed_ldyConst : Instr.wellFormed false true (.ldyConst 0x0108#16) = false := by decide
theorem test_illFormed_ldxConst : Instr.wellFormed false true (.ldxConst 0x0109#16) = false := by decide
theorem test_illFormed_cpyConst : Instr.wellFormed false true (.cpyConst 0x010A#16) = false := by decide
theorem test_illFormed_cpxConst : Instr.wellFormed false true (.cpxConst 0x010B#16) = false := by decide

theorem test_wellFormed_when_wide : Instr.wellFormed false true (.ldaConst 0x0100#16) = true := by decide

/-! ### Decoding: the words of the opcode table, written out from 30_encoding.md R97, R100, R101, R102

Each operand byte is different, so that a swapped byte shows. -/

/-- The instructions that sequences of bytes decode to whole, with m = x = 1. -/
def read8 (words : List (List Byte)) : List (Option Instr) :=
  words.map fun w => match decode true true w with
    | .ok (i, []) => some i
    | _ => none

theorem test_decode_row_0 : read8
    [[0x00#8, 0x9C#8], [0x01#8, 0x9C#8], [0x02#8, 0x9C#8], [0x03#8, 0x9C#8],
      [0x04#8, 0x9C#8], [0x05#8, 0x9C#8], [0x06#8, 0x9C#8], [0x07#8, 0x9C#8],
      [0x08#8], [0x09#8, 0x9C#8], [0x0A#8], [0x0B#8],
      [0x0C#8, 0x34#8, 0x12#8], [0x0D#8, 0x34#8, 0x12#8], [0x0E#8, 0x34#8, 0x12#8], [0x0F#8, 0x34#8, 0x12#8, 0xC2#8]] =
    [some (.brk 0x9C#8), some (.oraIndDpX 0x9C#8), some (.cop 0x9C#8), some (.oraSr 0x9C#8),
      some (.tsbDp 0x9C#8), some (.oraDp 0x9C#8), some (.aslDp 0x9C#8), some (.oraLongIndDp 0x9C#8),
      some .php, some (.oraConst 0x009C#16), some .aslAcc, some .phd,
      some (.tsbAddr 0x1234#16), some (.oraAddr 0x1234#16), some (.aslAddr 0x1234#16), some (.oraLong 0xC21234#24)] := by decide

theorem test_decode_row_1 : read8
    [[0x10#8, 0x9C#8], [0x11#8, 0x9C#8], [0x12#8, 0x9C#8], [0x13#8, 0x9C#8],
      [0x14#8, 0x9C#8], [0x15#8, 0x9C#8], [0x16#8, 0x9C#8], [0x17#8, 0x9C#8],
      [0x18#8], [0x19#8, 0x34#8, 0x12#8], [0x1A#8], [0x1B#8],
      [0x1C#8, 0x34#8, 0x12#8], [0x1D#8, 0x34#8, 0x12#8], [0x1E#8, 0x34#8, 0x12#8], [0x1F#8, 0x34#8, 0x12#8, 0xC2#8]] =
    [some (.bpl 0x9C#8), some (.oraIndDpY 0x9C#8), some (.oraIndDp 0x9C#8), some (.oraIndSrY 0x9C#8),
      some (.trbDp 0x9C#8), some (.oraDpX 0x9C#8), some (.aslDpX 0x9C#8), some (.oraLongIndDpY 0x9C#8),
      some .clc, some (.oraAddrY 0x1234#16), some .incAcc, some .tcs,
      some (.trbAddr 0x1234#16), some (.oraAddrX 0x1234#16), some (.aslAddrX 0x1234#16), some (.oraLongX 0xC21234#24)] := by decide

theorem test_decode_row_2 : read8
    [[0x20#8, 0x34#8, 0x12#8], [0x21#8, 0x9C#8], [0x22#8, 0x34#8, 0x12#8, 0xC2#8], [0x23#8, 0x9C#8],
      [0x24#8, 0x9C#8], [0x25#8, 0x9C#8], [0x26#8, 0x9C#8], [0x27#8, 0x9C#8],
      [0x28#8], [0x29#8, 0x9C#8], [0x2A#8], [0x2B#8],
      [0x2C#8, 0x34#8, 0x12#8], [0x2D#8, 0x34#8, 0x12#8], [0x2E#8, 0x34#8, 0x12#8], [0x2F#8, 0x34#8, 0x12#8, 0xC2#8]] =
    [some (.jsrAddr 0x1234#16), some (.andIndDpX 0x9C#8), some (.jsl 0xC21234#24), some (.andSr 0x9C#8),
      some (.bitDp 0x9C#8), some (.andDp 0x9C#8), some (.rolDp 0x9C#8), some (.andLongIndDp 0x9C#8),
      some .plp, some (.andConst 0x009C#16), some .rolAcc, some .pld,
      some (.bitAddr 0x1234#16), some (.andAddr 0x1234#16), some (.rolAddr 0x1234#16), some (.andLong 0xC21234#24)] := by decide

theorem test_decode_row_3 : read8
    [[0x30#8, 0x9C#8], [0x31#8, 0x9C#8], [0x32#8, 0x9C#8], [0x33#8, 0x9C#8],
      [0x34#8, 0x9C#8], [0x35#8, 0x9C#8], [0x36#8, 0x9C#8], [0x37#8, 0x9C#8],
      [0x38#8], [0x39#8, 0x34#8, 0x12#8], [0x3A#8], [0x3B#8],
      [0x3C#8, 0x34#8, 0x12#8], [0x3D#8, 0x34#8, 0x12#8], [0x3E#8, 0x34#8, 0x12#8], [0x3F#8, 0x34#8, 0x12#8, 0xC2#8]] =
    [some (.bmi 0x9C#8), some (.andIndDpY 0x9C#8), some (.andIndDp 0x9C#8), some (.andIndSrY 0x9C#8),
      some (.bitDpX 0x9C#8), some (.andDpX 0x9C#8), some (.rolDpX 0x9C#8), some (.andLongIndDpY 0x9C#8),
      some .sec, some (.andAddrY 0x1234#16), some .decAcc, some .tsc,
      some (.bitAddrX 0x1234#16), some (.andAddrX 0x1234#16), some (.rolAddrX 0x1234#16), some (.andLongX 0xC21234#24)] := by decide

theorem test_decode_row_4 : read8
    [[0x40#8], [0x41#8, 0x9C#8], [0x42#8, 0x9C#8], [0x43#8, 0x9C#8],
      [0x44#8, 0x7F#8, 0x7E#8], [0x45#8, 0x9C#8], [0x46#8, 0x9C#8], [0x47#8, 0x9C#8],
      [0x48#8], [0x49#8, 0x9C#8], [0x4A#8], [0x4B#8],
      [0x4C#8, 0x34#8, 0x12#8], [0x4D#8, 0x34#8, 0x12#8], [0x4E#8, 0x34#8, 0x12#8], [0x4F#8, 0x34#8, 0x12#8, 0xC2#8]] =
    [some .rti, some (.eorIndDpX 0x9C#8), some (.wdm 0x9C#8), some (.eorSr 0x9C#8),
      some (.mvp 0x7E#8 0x7F#8), some (.eorDp 0x9C#8), some (.lsrDp 0x9C#8), some (.eorLongIndDp 0x9C#8),
      some .pha, some (.eorConst 0x009C#16), some .lsrAcc, some .phk,
      some (.jmpAddr 0x1234#16), some (.eorAddr 0x1234#16), some (.lsrAddr 0x1234#16), some (.eorLong 0xC21234#24)] := by decide

theorem test_decode_row_5 : read8
    [[0x50#8, 0x9C#8], [0x51#8, 0x9C#8], [0x52#8, 0x9C#8], [0x53#8, 0x9C#8],
      [0x54#8, 0x7F#8, 0x7E#8], [0x55#8, 0x9C#8], [0x56#8, 0x9C#8], [0x57#8, 0x9C#8],
      [0x58#8], [0x59#8, 0x34#8, 0x12#8], [0x5A#8], [0x5B#8],
      [0x5C#8, 0x34#8, 0x12#8, 0xC2#8], [0x5D#8, 0x34#8, 0x12#8], [0x5E#8, 0x34#8, 0x12#8], [0x5F#8, 0x34#8, 0x12#8, 0xC2#8]] =
    [some (.bvc 0x9C#8), some (.eorIndDpY 0x9C#8), some (.eorIndDp 0x9C#8), some (.eorIndSrY 0x9C#8),
      some (.mvn 0x7E#8 0x7F#8), some (.eorDpX 0x9C#8), some (.lsrDpX 0x9C#8), some (.eorLongIndDpY 0x9C#8),
      some .cli, some (.eorAddrY 0x1234#16), some .phy, some .tcd,
      some (.jmpLong 0xC21234#24), some (.eorAddrX 0x1234#16), some (.lsrAddrX 0x1234#16), some (.eorLongX 0xC21234#24)] := by decide

theorem test_decode_row_6 : read8
    [[0x60#8], [0x61#8, 0x9C#8], [0x62#8, 0x34#8, 0x12#8], [0x63#8, 0x9C#8],
      [0x64#8, 0x9C#8], [0x65#8, 0x9C#8], [0x66#8, 0x9C#8], [0x67#8, 0x9C#8],
      [0x68#8], [0x69#8, 0x9C#8], [0x6A#8], [0x6B#8],
      [0x6C#8, 0x34#8, 0x12#8], [0x6D#8, 0x34#8, 0x12#8], [0x6E#8, 0x34#8, 0x12#8], [0x6F#8, 0x34#8, 0x12#8, 0xC2#8]] =
    [some .rts, some (.adcIndDpX 0x9C#8), some (.per 0x1234#16), some (.adcSr 0x9C#8),
      some (.stzDp 0x9C#8), some (.adcDp 0x9C#8), some (.rorDp 0x9C#8), some (.adcLongIndDp 0x9C#8),
      some .pla, some (.adcConst 0x009C#16), some .rorAcc, some .rtl,
      some (.jmpIndAddr 0x1234#16), some (.adcAddr 0x1234#16), some (.rorAddr 0x1234#16), some (.adcLong 0xC21234#24)] := by decide

theorem test_decode_row_7 : read8
    [[0x70#8, 0x9C#8], [0x71#8, 0x9C#8], [0x72#8, 0x9C#8], [0x73#8, 0x9C#8],
      [0x74#8, 0x9C#8], [0x75#8, 0x9C#8], [0x76#8, 0x9C#8], [0x77#8, 0x9C#8],
      [0x78#8], [0x79#8, 0x34#8, 0x12#8], [0x7A#8], [0x7B#8],
      [0x7C#8, 0x34#8, 0x12#8], [0x7D#8, 0x34#8, 0x12#8], [0x7E#8, 0x34#8, 0x12#8], [0x7F#8, 0x34#8, 0x12#8, 0xC2#8]] =
    [some (.bvs 0x9C#8), some (.adcIndDpY 0x9C#8), some (.adcIndDp 0x9C#8), some (.adcIndSrY 0x9C#8),
      some (.stzDpX 0x9C#8), some (.adcDpX 0x9C#8), some (.rorDpX 0x9C#8), some (.adcLongIndDpY 0x9C#8),
      some .sei, some (.adcAddrY 0x1234#16), some .ply, some .tdc,
      some (.jmpIndAddrX 0x1234#16), some (.adcAddrX 0x1234#16), some (.rorAddrX 0x1234#16), some (.adcLongX 0xC21234#24)] := by decide

theorem test_decode_row_8 : read8
    [[0x80#8, 0x9C#8], [0x81#8, 0x9C#8], [0x82#8, 0x34#8, 0x12#8], [0x83#8, 0x9C#8],
      [0x84#8, 0x9C#8], [0x85#8, 0x9C#8], [0x86#8, 0x9C#8], [0x87#8, 0x9C#8],
      [0x88#8], [0x89#8, 0x9C#8], [0x8A#8], [0x8B#8],
      [0x8C#8, 0x34#8, 0x12#8], [0x8D#8, 0x34#8, 0x12#8], [0x8E#8, 0x34#8, 0x12#8], [0x8F#8, 0x34#8, 0x12#8, 0xC2#8]] =
    [some (.bra 0x9C#8), some (.staIndDpX 0x9C#8), some (.brl 0x1234#16), some (.staSr 0x9C#8),
      some (.styDp 0x9C#8), some (.staDp 0x9C#8), some (.stxDp 0x9C#8), some (.staLongIndDp 0x9C#8),
      some .dey, some (.bitConst 0x009C#16), some .txa, some .phb,
      some (.styAddr 0x1234#16), some (.staAddr 0x1234#16), some (.stxAddr 0x1234#16), some (.staLong 0xC21234#24)] := by decide

theorem test_decode_row_9 : read8
    [[0x90#8, 0x9C#8], [0x91#8, 0x9C#8], [0x92#8, 0x9C#8], [0x93#8, 0x9C#8],
      [0x94#8, 0x9C#8], [0x95#8, 0x9C#8], [0x96#8, 0x9C#8], [0x97#8, 0x9C#8],
      [0x98#8], [0x99#8, 0x34#8, 0x12#8], [0x9A#8], [0x9B#8],
      [0x9C#8, 0x34#8, 0x12#8], [0x9D#8, 0x34#8, 0x12#8], [0x9E#8, 0x34#8, 0x12#8], [0x9F#8, 0x34#8, 0x12#8, 0xC2#8]] =
    [some (.bcc 0x9C#8), some (.staIndDpY 0x9C#8), some (.staIndDp 0x9C#8), some (.staIndSrY 0x9C#8),
      some (.styDpX 0x9C#8), some (.staDpX 0x9C#8), some (.stxDpY 0x9C#8), some (.staLongIndDpY 0x9C#8),
      some .tya, some (.staAddrY 0x1234#16), some .txs, some .txy,
      some (.stzAddr 0x1234#16), some (.staAddrX 0x1234#16), some (.stzAddrX 0x1234#16), some (.staLongX 0xC21234#24)] := by decide

theorem test_decode_row_A : read8
    [[0xA0#8, 0x9C#8], [0xA1#8, 0x9C#8], [0xA2#8, 0x9C#8], [0xA3#8, 0x9C#8],
      [0xA4#8, 0x9C#8], [0xA5#8, 0x9C#8], [0xA6#8, 0x9C#8], [0xA7#8, 0x9C#8],
      [0xA8#8], [0xA9#8, 0x9C#8], [0xAA#8], [0xAB#8],
      [0xAC#8, 0x34#8, 0x12#8], [0xAD#8, 0x34#8, 0x12#8], [0xAE#8, 0x34#8, 0x12#8], [0xAF#8, 0x34#8, 0x12#8, 0xC2#8]] =
    [some (.ldyConst 0x009C#16), some (.ldaIndDpX 0x9C#8), some (.ldxConst 0x009C#16), some (.ldaSr 0x9C#8),
      some (.ldyDp 0x9C#8), some (.ldaDp 0x9C#8), some (.ldxDp 0x9C#8), some (.ldaLongIndDp 0x9C#8),
      some .tay, some (.ldaConst 0x009C#16), some .tax, some .plb,
      some (.ldyAddr 0x1234#16), some (.ldaAddr 0x1234#16), some (.ldxAddr 0x1234#16), some (.ldaLong 0xC21234#24)] := by decide

theorem test_decode_row_B : read8
    [[0xB0#8, 0x9C#8], [0xB1#8, 0x9C#8], [0xB2#8, 0x9C#8], [0xB3#8, 0x9C#8],
      [0xB4#8, 0x9C#8], [0xB5#8, 0x9C#8], [0xB6#8, 0x9C#8], [0xB7#8, 0x9C#8],
      [0xB8#8], [0xB9#8, 0x34#8, 0x12#8], [0xBA#8], [0xBB#8],
      [0xBC#8, 0x34#8, 0x12#8], [0xBD#8, 0x34#8, 0x12#8], [0xBE#8, 0x34#8, 0x12#8], [0xBF#8, 0x34#8, 0x12#8, 0xC2#8]] =
    [some (.bcs 0x9C#8), some (.ldaIndDpY 0x9C#8), some (.ldaIndDp 0x9C#8), some (.ldaIndSrY 0x9C#8),
      some (.ldyDpX 0x9C#8), some (.ldaDpX 0x9C#8), some (.ldxDpY 0x9C#8), some (.ldaLongIndDpY 0x9C#8),
      some .clv, some (.ldaAddrY 0x1234#16), some .tsx, some .tyx,
      some (.ldyAddrX 0x1234#16), some (.ldaAddrX 0x1234#16), some (.ldxAddrY 0x1234#16), some (.ldaLongX 0xC21234#24)] := by decide

theorem test_decode_row_C : read8
    [[0xC0#8, 0x9C#8], [0xC1#8, 0x9C#8], [0xC2#8, 0x9C#8], [0xC3#8, 0x9C#8],
      [0xC4#8, 0x9C#8], [0xC5#8, 0x9C#8], [0xC6#8, 0x9C#8], [0xC7#8, 0x9C#8],
      [0xC8#8], [0xC9#8, 0x9C#8], [0xCA#8], [0xCB#8],
      [0xCC#8, 0x34#8, 0x12#8], [0xCD#8, 0x34#8, 0x12#8], [0xCE#8, 0x34#8, 0x12#8], [0xCF#8, 0x34#8, 0x12#8, 0xC2#8]] =
    [some (.cpyConst 0x009C#16), some (.cmpIndDpX 0x9C#8), some (.rep 0x9C#8), some (.cmpSr 0x9C#8),
      some (.cpyDp 0x9C#8), some (.cmpDp 0x9C#8), some (.decDp 0x9C#8), some (.cmpLongIndDp 0x9C#8),
      some .iny, some (.cmpConst 0x009C#16), some .dex, some .wai,
      some (.cpyAddr 0x1234#16), some (.cmpAddr 0x1234#16), some (.decAddr 0x1234#16), some (.cmpLong 0xC21234#24)] := by decide

theorem test_decode_row_D : read8
    [[0xD0#8, 0x9C#8], [0xD1#8, 0x9C#8], [0xD2#8, 0x9C#8], [0xD3#8, 0x9C#8],
      [0xD4#8, 0x9C#8], [0xD5#8, 0x9C#8], [0xD6#8, 0x9C#8], [0xD7#8, 0x9C#8],
      [0xD8#8], [0xD9#8, 0x34#8, 0x12#8], [0xDA#8], [0xDB#8],
      [0xDC#8, 0x34#8, 0x12#8], [0xDD#8, 0x34#8, 0x12#8], [0xDE#8, 0x34#8, 0x12#8], [0xDF#8, 0x34#8, 0x12#8, 0xC2#8]] =
    [some (.bne 0x9C#8), some (.cmpIndDpY 0x9C#8), some (.cmpIndDp 0x9C#8), some (.cmpIndSrY 0x9C#8),
      some (.pei 0x9C#8), some (.cmpDpX 0x9C#8), some (.decDpX 0x9C#8), some (.cmpLongIndDpY 0x9C#8),
      some .cld, some (.cmpAddrY 0x1234#16), some .phx, some .stp,
      some (.jmpLongIndAddr 0x1234#16), some (.cmpAddrX 0x1234#16), some (.decAddrX 0x1234#16), some (.cmpLongX 0xC21234#24)] := by decide

theorem test_decode_row_E : read8
    [[0xE0#8, 0x9C#8], [0xE1#8, 0x9C#8], [0xE2#8, 0x9C#8], [0xE3#8, 0x9C#8],
      [0xE4#8, 0x9C#8], [0xE5#8, 0x9C#8], [0xE6#8, 0x9C#8], [0xE7#8, 0x9C#8],
      [0xE8#8], [0xE9#8, 0x9C#8], [0xEA#8], [0xEB#8],
      [0xEC#8, 0x34#8, 0x12#8], [0xED#8, 0x34#8, 0x12#8], [0xEE#8, 0x34#8, 0x12#8], [0xEF#8, 0x34#8, 0x12#8, 0xC2#8]] =
    [some (.cpxConst 0x009C#16), some (.sbcIndDpX 0x9C#8), some (.sep 0x9C#8), some (.sbcSr 0x9C#8),
      some (.cpxDp 0x9C#8), some (.sbcDp 0x9C#8), some (.incDp 0x9C#8), some (.sbcLongIndDp 0x9C#8),
      some .inx, some (.sbcConst 0x009C#16), some .nop, some .xba,
      some (.cpxAddr 0x1234#16), some (.sbcAddr 0x1234#16), some (.incAddr 0x1234#16), some (.sbcLong 0xC21234#24)] := by decide

theorem test_decode_row_F : read8
    [[0xF0#8, 0x9C#8], [0xF1#8, 0x9C#8], [0xF2#8, 0x9C#8], [0xF3#8, 0x9C#8],
      [0xF4#8, 0x34#8, 0x12#8], [0xF5#8, 0x9C#8], [0xF6#8, 0x9C#8], [0xF7#8, 0x9C#8],
      [0xF8#8], [0xF9#8, 0x34#8, 0x12#8], [0xFA#8], [0xFB#8],
      [0xFC#8, 0x34#8, 0x12#8], [0xFD#8, 0x34#8, 0x12#8], [0xFE#8, 0x34#8, 0x12#8], [0xFF#8, 0x34#8, 0x12#8, 0xC2#8]] =
    [some (.beq 0x9C#8), some (.sbcIndDpY 0x9C#8), some (.sbcIndDp 0x9C#8), some (.sbcIndSrY 0x9C#8),
      some (.pea 0x1234#16), some (.sbcDpX 0x9C#8), some (.incDpX 0x9C#8), some (.sbcLongIndDpY 0x9C#8),
      some .sed, some (.sbcAddrY 0x1234#16), some .plx, some .xce,
      some (.jsrIndAddrX 0x1234#16), some (.sbcAddrX 0x1234#16), some (.incAddrX 0x1234#16), some (.sbcLongX 0xC21234#24)] := by decide

/-- The twelve `const` opcodes with 16-bit operands (R98). -/
theorem test_decode_wide_const :
    [[0x09#8, 0x34#8, 0x92#8], [0x29#8, 0x34#8, 0x92#8], [0x49#8, 0x34#8, 0x92#8],
      [0x69#8, 0x34#8, 0x92#8], [0x89#8, 0x34#8, 0x92#8], [0xA0#8, 0x34#8, 0x92#8],
      [0xA2#8, 0x34#8, 0x92#8], [0xA9#8, 0x34#8, 0x92#8], [0xC0#8, 0x34#8, 0x92#8],
      [0xC9#8, 0x34#8, 0x92#8], [0xE0#8, 0x34#8, 0x92#8], [0xE9#8, 0x34#8, 0x92#8]].map (decode false false) =
    [.ok (.oraConst 0x9234#16, []), .ok (.andConst 0x9234#16, []), .ok (.eorConst 0x9234#16, []),
      .ok (.adcConst 0x9234#16, []), .ok (.bitConst 0x9234#16, []), .ok (.ldyConst 0x9234#16, []),
      .ok (.ldxConst 0x9234#16, []), .ok (.ldaConst 0x9234#16, []), .ok (.cpyConst 0x9234#16, []),
      .ok (.cmpConst 0x9234#16, []), .ok (.cpxConst 0x9234#16, []), .ok (.sbcConst 0x9234#16, [])] := by decide

theorem test_decode_too_few : decode true true [] = .error .noOpcode ∧
    decode true true [0xAD#8, 0x34#8] = .error (.truncated 0xAD#8) ∧
    decode false true [0xA9#8, 0x34#8] = .error (.truncated 0xA9#8) := by decide

/-! One word of every family, bit by bit. -/

theorem test_decode_bits_load : decode true true [0b10111101#8, 0b00110100#8, 0b00010010#8] = .ok (.ldaAddrX 0x1234#16, []) := by decide
theorem test_decode_bits_store : decode true true [0b10010111#8, 0b00010000#8] = .ok (.staLongIndDpY 0x10#8, []) := by decide
theorem test_decode_bits_add : decode true true [0b01110011#8, 0b00000101#8] = .ok (.adcIndSrY 0x05#8, []) := by decide
theorem test_decode_bits_logic : decode true true [0b00101111#8, 0b01010110#8, 0b00110100#8, 0b00010010#8] = .ok (.andLong 0x123456#24, []) := by decide
theorem test_decode_bits_compare : decode true true [0b11100100#8, 0b01111111#8] = .ok (.cpxDp 0x7F#8, []) := by decide
theorem test_decode_bits_shift : decode true true [0b01111110#8, 0b00000001#8, 0b10000000#8] = .ok (.rorAddrX 0x8001#16, []) := by decide
theorem test_decode_bits_branch : decode true true [0b11010000#8, 0b11111110#8] = .ok (.bne 0xFE#8, []) := by decide
theorem test_decode_bits_jump : decode true true [0b11111100#8, 0b00000000#8, 0b10010000#8] = .ok (.jsrIndAddrX 0x9000#16, []) := by decide
theorem test_decode_bits_transfer : decode true true [0b10011011#8] = .ok (.txy, []) := by decide
theorem test_decode_bits_block : decode true true [0b01000100#8, 0b00000001#8, 0b00000010#8] = .ok (.mvp 0x02#8 0x01#8, []) := by decide
theorem test_decode_bits_push : decode true true [0b01100010#8, 0b00001101#8, 0b00000000#8] = .ok (.per 0x000D#16, []) := by decide
theorem test_decode_bits_mode : decode true true [0b11000010#8, 0b00110000#8] = .ok (.rep 0x30#8, []) := by decide
theorem test_decode_bits_trap : decode true true [0b00000000#8, 0b10101010#8] = .ok (.brk 0xAA#8, []) := by decide

theorem test_tableWord_long : decodeTableWord 32 0xC21234AF = some (.ldaLong 0xC21234#24) := by decide
theorem test_tableWord_short : decodeTableWord 8 0xFFEA = some .nop := by decide

/-! ### The spec's vectors, one step each (95_test_vectors.md) -/

/-- The default start state of the vectors, native mode, with P and memory as given. -/
def native (p : Byte) (cells : List Host.Cell) : State :=
  { State.reset with e := false, pc := 0x8000#16, p := p, mem := { cells := cells } }

/-- The default start state of the vectors, emulation mode. -/
def emulation (p : Byte) (cells : List Host.Cell) : State := { native p cells with e := true }

/-- What is looked at in the state after one step. -/
def look {α : Type} (s : State) (f : State → α) : Option α :=
  match step s with
  | .next t => some (f t)
  | .fault _ => none
  | .refused _ => none

/-- TA1, R160 R122. -/
theorem test_TA1_lda : look (native 0x34#8 [(0x008000, 0xA9#8), (0x008001, 0x80#8)])
    (fun t => (t.c, t.p)) = some (0x0080#16, 0xB4#8) := by decide

/-- TA3, R160. -/
theorem test_TA3_lda : look { native 0x34#8 [(0x008000, 0xA9#8)] with c := 0xAB12#16 }
    (fun t => (t.c, t.p)) = some (0xAB00#16, 0x36#8) := by decide

/-- TA21, R161. -/
theorem test_TA21_ldx : look (native 0x24#8 [(0x008000, 0xA2#8), (0x008001, 0xFF#8), (0x008002, 0xFF#8)])
    (fun t => (t.x, t.p)) = some (0xFFFF#16, 0xA4#8) := by decide

/-- TA24, R162. -/
theorem test_TA24_ldy : look { native 0x34#8 [(0x001235, 0x01#8), (0x008000, 0xBC#8), (0x008001, 0x34#8),
        (0x008002, 0x12#8)] with
        x := 0x0001#16 }
    (fun t => (t.y, t.pc)) = some (0x0001#16, 0x8003#16) := by decide

/-- TA25, R163. -/
theorem test_TA25_sta : look { native 0x34#8 [(0x008000, 0x8D#8), (0x008001, 0x34#8), (0x008002, 0x12#8)] with
        c := 0xAB80#16, dbr := 0x7E#8 }
    (fun t => (t.readByte .data 0x7E1234#24, t.pc)) = some (0x80#8, 0x8003#16) := by decide

/-- TA26, R163 R66. -/
theorem test_TA26_sta : look { native 0x14#8 [(0x008000, 0x8D#8), (0x008001, 0xFF#8), (0x008002, 0xFF#8)] with
        c := 0xABCD#16, dbr := 0x7E#8 }
    (fun t => (t.readByte .data 0x7EFFFF#24, t.readByte .data 0x7F0000#24)) = some (0xCD#8, 0xAB#8) := by decide

/-- TA29, R164. -/
theorem test_TA29_stx : look { native 0x24#8 [(0x008000, 0x86#8), (0x008001, 0x10#8)] with x := 0x1234#16 }
    (fun t => (t.readByte .data 0x000010#24, t.readByte .data 0x000011#24)) = some (0x34#8, 0x12#8) := by decide

/-- TA30, R165. -/
theorem test_TA30_sty : look { native 0x34#8 [(0x008000, 0x8C#8), (0x008001, 0x34#8), (0x008002, 0x12#8)] with
        y := 0x009A#16, dbr := 0x01#8 }
    (fun t => (t.readByte .data 0x011234#24, t.pc)) = some (0x9A#8, 0x8003#16) := by decide

/-- TA31, R166. -/
theorem test_TA31_stz : look { native 0x14#8 [(0x001236, 0xAA#8), (0x001237, 0xBB#8), (0x008000, 0x9E#8),
        (0x008001, 0x34#8), (0x008002, 0x12#8)] with
        c := 0xFFFF#16, x := 0x0002#16 }
    (fun t => (t.readByte .data 0x001236#24, t.readByte .data 0x001237#24)) = some (0x00#8, 0x00#8) := by decide

/-- TB1, R181. -/
theorem test_TB1_tsb : look { native 0x34#8 [(0x000010, 0x0F#8), (0x008000, 0x04#8), (0x008001, 0x10#8)] with
        c := 0x00F0#16 }
    (fun t => (t.readByte .data 0x000010#24, t.p)) = some (0xFF#8, 0x36#8) := by decide

/-- TB4, R180. -/
theorem test_TB4_trb : look { native 0x14#8 [(0x000010, 0xFF#8), (0x008000, 0x14#8), (0x008001, 0x10#8)] with
        c := 0xFF00#16 }
    (fun t => (t.p, t.pc)) = some (0x16#8, 0x8002#16) := by decide

/-- TB5, R183. -/
theorem test_TB5_adc : look { native 0x34#8 [(0x008000, 0x69#8), (0x008001, 0x01#8)] with c := 0x007F#16 }
    (fun t => (t.c, t.p)) = some (0x0080#16, 0xF4#8) := by decide

/-- TB6, R183. -/
theorem test_TB6_adc : look { native 0x34#8 [(0x008000, 0x69#8), (0x008001, 0x01#8)] with c := 0x12FF#16 }
    (fun t => (t.c, t.p)) = some (0x1200#16, 0x37#8) := by decide

/-- TB11, R184. -/
theorem test_TB11_sbc : look (native 0x35#8 [(0x008000, 0xE9#8), (0x008001, 0x01#8)])
    (fun t => (t.c, t.p)) = some (0x00FF#16, 0xB4#8) := by decide

/-- TB12, R184. -/
theorem test_TB12_sbc : look { native 0x34#8 [(0x008000, 0xE9#8), (0x008001, 0x01#8)] with c := 0x0005#16 }
    (fun t => (t.c, t.p)) = some (0x0003#16, 0x35#8) := by decide

/-- TB22, R187. -/
theorem test_TB22_inc : look { native 0x35#8 [(0x008000, 0x1A#8)] with c := 0x12FF#16 }
    (fun t => (t.c, t.p)) = some (0x1200#16, 0x37#8) := by decide

/-- TB26, R188. -/
theorem test_TB26_inx : look { native 0x34#8 [(0x008000, 0xE8#8)] with x := 0x00FF#16 }
    (fun t => (t.x, t.p)) = some (0x0000#16, 0x36#8) := by decide

/-- TB28, R189. -/
theorem test_TB28_iny : look { native 0x24#8 [(0x008000, 0xC8#8)] with y := 0xFFFF#16 }
    (fun t => (t.y, t.p)) = some (0x0000#16, 0x26#8) := by decide

/-- TB29, R190. -/
theorem test_TB29_dec : look { native 0x34#8 [(0x008000, 0x3A#8)] with c := 0x1200#16 }
    (fun t => (t.c, t.p)) = some (0x12FF#16, 0xB4#8) := by decide

/-- TB31, R191. -/
theorem test_TB31_dex : look (native 0x34#8 [(0x008000, 0xCA#8)])
    (fun t => (t.x, t.p)) = some (0x00FF#16, 0xB4#8) := by decide

/-- TB32, R192. -/
theorem test_TB32_dey : look (native 0x24#8 [(0x008000, 0x88#8)])
    (fun t => (t.y, t.p)) = some (0xFFFF#16, 0xA4#8) := by decide

/-- TC2, R200. -/
theorem test_TC2_and : look { native 0x14#8 [(0x008000, 0x29#8), (0x008001, 0xFF#8)] with c := 0xAB00#16 }
    (fun t => (t.c, t.p)) = some (0x0000#16, 0x16#8) := by decide

/-- TC3, R201. -/
theorem test_TC3_ora : look { native 0x34#8 [(0x008000, 0x09#8), (0x008001, 0x80#8)] with c := 0x0001#16 }
    (fun t => (t.c, t.p)) = some (0x0081#16, 0xB4#8) := by decide

/-- TC5, R202. -/
theorem test_TC5_eor : look { native 0x34#8 [(0x008000, 0x49#8), (0x008001, 0xFF#8)] with c := 0x00FF#16 }
    (fun t => (t.c, t.p)) = some (0x0000#16, 0x36#8) := by decide

/-- TC7, R203. -/
theorem test_TC7_bit : look { native 0x34#8 [(0x000010, 0xC0#8), (0x008000, 0x24#8), (0x008001, 0x10#8)] with
        c := 0x0001#16 }
    (fun t => (t.p, t.pc)) = some (0xF6#8, 0x8002#16) := by decide

/-- TC8, R203. -/
theorem test_TC8_bit : look { native 0xB4#8 [(0x000010, 0x41#8), (0x008000, 0x24#8), (0x008001, 0x10#8)] with
        c := 0x0001#16 }
    (fun t => (t.p, t.pc)) = some (0x74#8, 0x8002#16) := by decide

/-- TC12, R204. -/
theorem test_TC12_cmp : look { native 0x34#8 [(0x008000, 0xC9#8), (0x008001, 0x10#8)] with c := 0x0010#16 }
    (fun t => (t.p, t.pc)) = some (0x37#8, 0x8002#16) := by decide

/-- TC13, R204. -/
theorem test_TC13_cmp : look { native 0x35#8 [(0x008000, 0xC9#8), (0x008001, 0x20#8)] with c := 0x0010#16 }
    (fun t => (t.p, t.pc)) = some (0xB4#8, 0x8002#16) := by decide

/-- TC16, R205. -/
theorem test_TC16_cpx : look { native 0x34#8 [(0x008000, 0xE0#8), (0x008001, 0x05#8)] with x := 0x0006#16 }
    (fun t => (t.p, t.pc)) = some (0x35#8, 0x8002#16) := by decide

/-- TC18, R206. -/
theorem test_TC18_cpy : look { native 0x34#8 [(0x008000, 0xC0#8), (0x008001, 0xFF#8)] with y := 0x00FF#16 }
    (fun t => (t.p, t.pc)) = some (0x37#8, 0x8002#16) := by decide

/-- TD1, R221. -/
theorem test_TD1_asl : look { native 0x34#8 [(0x008000, 0x0A#8)] with c := 0x1281#16 }
    (fun t => (t.c, t.p)) = some (0x1202#16, 0x35#8) := by decide

/-- TD5, R220. -/
theorem test_TD5_lsr : look { native 0xB4#8 [(0x008000, 0x4A#8)] with c := 0x0001#16 }
    (fun t => (t.c, t.p)) = some (0x0000#16, 0x37#8) := by decide

/-- TD9, R222. -/
theorem test_TD9_rol : look { native 0x34#8 [(0x008000, 0x2A#8)] with c := 0x0080#16 }
    (fun t => (t.c, t.p)) = some (0x0000#16, 0x37#8) := by decide

/-- TD11, R223. -/
theorem test_TD11_ror : look { native 0x35#8 [(0x008000, 0x6A#8)] with c := 0x0001#16 }
    (fun t => (t.c, t.p)) = some (0x0080#16, 0xB5#8) := by decide

/-- TD12, R223. -/
theorem test_TD12_ror : look { native 0x34#8 [(0x008000, 0x6A#8)] with c := 0x0001#16 }
    (fun t => (t.c, t.p)) = some (0x0000#16, 0x37#8) := by decide

/-- TE1, R235 R230. -/
theorem test_TE1_bra : look (native 0x34#8 [(0x008000, 0x80#8), (0x008001, 0x10#8)])
    (fun t => (t.pc)) = some (0x8012#16) := by decide

/-- TE5, R231. -/
theorem test_TE5_bpl : look (native 0x34#8 [(0x008000, 0x10#8), (0x008001, 0x04#8)])
    (fun t => (t.pc)) = some (0x8006#16) := by decide

/-- TE7, R232. -/
theorem test_TE7_bmi : look (native 0xB4#8 [(0x008000, 0x30#8), (0x008001, 0x04#8)])
    (fun t => (t.pc)) = some (0x8006#16) := by decide

/-- TE8, R233. -/
theorem test_TE8_bvc : look (native 0x74#8 [(0x008000, 0x50#8), (0x008001, 0x04#8)])
    (fun t => (t.pc)) = some (0x8002#16) := by decide

/-- TE9, R234. -/
theorem test_TE9_bvs : look (native 0x74#8 [(0x008000, 0x70#8), (0x008001, 0xFC#8)])
    (fun t => (t.pc)) = some (0x7FFE#16) := by decide

/-- TE10, R237. -/
theorem test_TE10_bcc : look (native 0x34#8 [(0x008000, 0x90#8), (0x008001, 0x02#8)])
    (fun t => (t.pc)) = some (0x8004#16) := by decide

/-- TE11, R238. -/
theorem test_TE11_bcs : look (native 0x34#8 [(0x008000, 0xB0#8), (0x008001, 0x02#8)])
    (fun t => (t.pc)) = some (0x8002#16) := by decide

/-- TE12, R239. -/
theorem test_TE12_bne : look (native 0x34#8 [(0x008000, 0xD0#8), (0x008001, 0xF0#8)])
    (fun t => (t.pc)) = some (0x7FF2#16) := by decide

/-- TE13, R240. -/
theorem test_TE13_beq : look (native 0x36#8 [(0x008000, 0xF0#8), (0x008001, 0x7F#8)])
    (fun t => (t.pc)) = some (0x8081#16) := by decide

/-- TE14, R236. -/
theorem test_TE14_brl : look (native 0x34#8 [(0x008000, 0x82#8), (0x008002, 0x10#8)])
    (fun t => (t.pc)) = some (0x9003#16) := by decide

/-- TE18, R242. -/
theorem test_TE18_jmp : look (native 0x34#8 [(0x008000, 0x5C#8), (0x008001, 0x34#8), (0x008002, 0x12#8), (0x008003,
      0xC2#8)])
    (fun t => (t.pbr, t.pc)) = some (0xC2#8, 0x1234#16) := by decide

/-- TE22, R245. -/
theorem test_TE22_jmp : look { native 0x34#8 [(0x001000, 0x56#8), (0x001001, 0x34#8), (0x001002, 0x12#8),
        (0x7E8000, 0xDC#8), (0x7E8002, 0x10#8)] with
        pbr := 0x7E#8 }
    (fun t => (t.pbr, t.pc)) = some (0x12#8, 0x3456#16) := by decide

/-- TE23, R246. -/
theorem test_TE23_jsr : look { native 0x34#8 [(0x7E8000, 0x20#8), (0x7E8001, 0x34#8), (0x7E8002, 0x12#8)] with
        pbr := 0x7E#8 }
    (fun t => (t.sp, t.readByte .data 0x0001FE#24, t.readByte .data 0x0001FF#24)) = some (0x01FD#16, 0x02#8, 0x80#8) := by decide

/-- TE24, R247. -/
theorem test_TE24_jsl : look { native 0x34#8 [(0x7E8000, 0x22#8), (0x7E8001, 0x34#8), (0x7E8002, 0x12#8),
        (0x7E8003, 0xC2#8)] with
        pbr := 0x7E#8 }
    (fun t => (t.sp, t.pbr, t.readByte .data 0x0001FD#24)) = some (0x01FC#16, 0xC2#8, 0x03#8) := by decide

/-- TE25, R248. -/
theorem test_TE25_jsr : look { native 0x34#8 [(0x7E1005, 0x90#8), (0x7E8000, 0xFC#8), (0x7E8002, 0x10#8)] with
        x := 0x0004#16, pbr := 0x7E#8 }
    (fun t => (t.sp, t.readByte .data 0x0001FE#24, t.readByte .data 0x0001FF#24)) = some (0x01FD#16, 0x02#8, 0x80#8) := by decide

/-- TE26, R249. -/
theorem test_TE26_rts : look { native 0x34#8 [(0x0001FE, 0x02#8), (0x0001FF, 0x80#8), (0x7E9000, 0x60#8)] with
        sp := 0x01FD#16, pbr := 0x7E#8, pc := 0x9000#16 }
    (fun t => (t.sp, t.pc)) = some (0x01FF#16, 0x8003#16) := by decide

/-- TE28, R250. -/
theorem test_TE28_rtl : look { native 0x34#8 [(0x0001FD, 0x03#8), (0x0001FE, 0x80#8), (0x0001FF, 0x7E#8),
        (0xC21234, 0x6B#8)] with
        sp := 0x01FC#16, pbr := 0xC2#8, pc := 0x1234#16 }
    (fun t => (t.sp, t.pbr)) = some (0x01FF#16, 0x7E#8) := by decide

/-- TF1, R260. -/
theorem test_TF1_clc : look (native 0xFF#8 [(0x008000, 0x18#8)])
    (fun t => (t.p, t.pc)) = some (0xFE#8, 0x8001#16) := by decide

/-- TF2, R261. -/
theorem test_TF2_sec : look (native 0x00#8 [(0x008000, 0x38#8)])
    (fun t => (t.p, t.pc)) = some (0x01#8, 0x8001#16) := by decide

/-- TF3, R262. -/
theorem test_TF3_cli : look (native 0x34#8 [(0x008000, 0x58#8)])
    (fun t => (t.p, t.pc)) = some (0x30#8, 0x8001#16) := by decide

/-- TF4, R263. -/
theorem test_TF4_sei : look (native 0x30#8 [(0x008000, 0x78#8)])
    (fun t => (t.p, t.pc)) = some (0x34#8, 0x8001#16) := by decide

/-- TF5, R264. -/
theorem test_TF5_clv : look (native 0x74#8 [(0x008000, 0xB8#8)])
    (fun t => (t.p, t.pc)) = some (0x34#8, 0x8001#16) := by decide

/-- TF6, R265. -/
theorem test_TF6_cld : look (native 0x3C#8 [(0x008000, 0xD8#8)])
    (fun t => (t.p, t.pc)) = some (0x34#8, 0x8001#16) := by decide

/-- TF7, R266. -/
theorem test_TF7_sed : look (native 0x34#8 [(0x008000, 0xF8#8)])
    (fun t => (t.p, t.pc)) = some (0x3C#8, 0x8001#16) := by decide

/-- TF8, R268. -/
theorem test_TF8_tcs : look { native 0x34#8 [(0x008000, 0x1B#8)] with c := 0x1FFF#16 }
    (fun t => (t.sp, t.pc)) = some (0x1FFF#16, 0x8001#16) := by decide

/-- TF10, R269. -/
theorem test_TF10_tsc : look { native 0x34#8 [(0x008000, 0x3B#8)] with c := 0x5555#16, sp := 0x81F0#16 }
    (fun t => (t.c, t.p)) = some (0x81F0#16, 0xB4#8) := by decide

/-- TF11, R270. -/
theorem test_TF11_tcd : look { native 0x34#8 [(0x008000, 0x5B#8)] with d := 0x1234#16 }
    (fun t => (t.d, t.p)) = some (0x0000#16, 0x36#8) := by decide

/-- TF12, R271. -/
theorem test_TF12_tdc : look { native 0x34#8 [(0x008000, 0x7B#8)] with d := 0x8000#16 }
    (fun t => (t.c, t.p)) = some (0x8000#16, 0xB4#8) := by decide

/-- TF13, R272. -/
theorem test_TF13_txa : look { native 0x24#8 [(0x008000, 0x8A#8)] with c := 0xAB00#16, x := 0x1280#16 }
    (fun t => (t.c, t.p)) = some (0xAB80#16, 0xA4#8) := by decide

/-- TF15, R273. -/
theorem test_TF15_tya : look { native 0x04#8 [(0x008000, 0x98#8)] with c := 0xABCD#16 }
    (fun t => (t.c, t.p)) = some (0x0000#16, 0x06#8) := by decide

/-- TF16, R274. -/
theorem test_TF16_txs : look { native 0x24#8 [(0x008000, 0x9A#8)] with x := 0x8000#16 }
    (fun t => (t.sp, t.pc)) = some (0x8000#16, 0x8001#16) := by decide

/-- TF17, R274. -/
theorem test_TF17_txs : look { native 0x34#8 [(0x008000, 0x9A#8)] with x := 0x00F0#16, sp := 0x1FFF#16 }
    (fun t => (t.sp, t.pc)) = some (0x00F0#16, 0x8001#16) := by decide

/-- TF19, R275. -/
theorem test_TF19_txy : look { native 0x34#8 [(0x008000, 0x9B#8)] with y := 0x0055#16 }
    (fun t => (t.y, t.p)) = some (0x0000#16, 0x36#8) := by decide

/-- TF20, R276. -/
theorem test_TF20_tay : look { native 0x24#8 [(0x008000, 0xA8#8)] with c := 0x8012#16 }
    (fun t => (t.y, t.p)) = some (0x8012#16, 0xA4#8) := by decide

/-- TF22, R277. -/
theorem test_TF22_tax : look { native 0x34#8 [(0x008000, 0xAA#8)] with c := 0xFF00#16, x := 0x0012#16 }
    (fun t => (t.x, t.p)) = some (0x0000#16, 0x36#8) := by decide

/-- TF23, R278. -/
theorem test_TF23_tsx : look { native 0x34#8 [(0x008000, 0xBA#8)] with sp := 0x1F80#16 }
    (fun t => (t.x, t.p)) = some (0x0080#16, 0xB4#8) := by decide

/-- TF25, R279. -/
theorem test_TF25_tyx : look { native 0x24#8 [(0x008000, 0xBB#8)] with y := 0xFFFF#16 }
    (fun t => (t.x, t.p)) = some (0xFFFF#16, 0xA4#8) := by decide

/-- TG1, R292 R290. -/
theorem test_TG1_mvn : look { native 0x24#8 [(0x008000, 0x54#8), (0x008001, 0x7F#8), (0x008002, 0x7E#8),
        (0x7E1000, 0x11#8), (0x7E1001, 0x22#8), (0x7E1002, 0x33#8)] with
        c := 0x0002#16, x := 0x1000#16, y := 0x2000#16 }
    (fun t => (t.c, t.x, t.y)) = some (0x0001#16, 0x1001#16, 0x2001#16) := by decide

/-- TG4, R292. -/
theorem test_TG4_mvn : look { native 0x24#8 [(0x008000, 0x54#8), (0x008001, 0x01#8), (0x00FFFF, 0x5A#8)] with
        x := 0xFFFF#16, y := 0xFFFF#16 }
    (fun t => (t.c, t.x, t.y)) = some (0xFFFF#16, 0x0000#16, 0x0000#16) := by decide

/-- TG6, R295. -/
theorem test_TG6_pea : look (native 0x34#8 [(0x008000, 0xF4#8), (0x008001, 0x34#8), (0x008002, 0x12#8)])
    (fun t => (t.sp, t.readByte .data 0x0001FE#24, t.readByte .data 0x0001FF#24)) = some (0x01FD#16, 0x34#8, 0x12#8) := by decide

/-- TG7, R294. -/
theorem test_TG7_pei : look { native 0x34#8 [(0x000110, 0xCD#8), (0x000111, 0xAB#8), (0x008000, 0xD4#8),
        (0x008001, 0x10#8)] with
        d := 0x0100#16 }
    (fun t => (t.sp, t.readByte .data 0x0001FE#24, t.readByte .data 0x0001FF#24)) = some (0x01FD#16, 0xCD#8, 0xAB#8) := by decide

/-- TG8, R293. -/
theorem test_TG8_per : look (native 0x34#8 [(0x008000, 0x62#8), (0x008001, 0x10#8)])
    (fun t => (t.sp, t.readByte .data 0x0001FE#24, t.readByte .data 0x0001FF#24)) = some (0x01FD#16, 0x13#8, 0x80#8) := by decide

/-- TG10, R296. -/
theorem test_TG10_php : look (native 0xF5#8 [(0x008000, 0x08#8)])
    (fun t => (t.sp, t.readByte .data 0x0001FF#24)) = some (0x01FE#16, 0xF5#8) := by decide

/-- TG12, R297. -/
theorem test_TG12_phd : look { native 0x34#8 [(0x008000, 0x0B#8)] with d := 0x1234#16 }
    (fun t => (t.sp, t.readByte .data 0x0001FE#24, t.readByte .data 0x0001FF#24)) = some (0x01FD#16, 0x34#8, 0x12#8) := by decide

/-- TG13, R298. -/
theorem test_TG13_pha : look { native 0x34#8 [(0x008000, 0x48#8)] with c := 0xAB12#16 }
    (fun t => (t.sp, t.readByte .data 0x0001FF#24)) = some (0x01FE#16, 0x12#8) := by decide

/-- TG15, R299. -/
theorem test_TG15_phk : look { native 0x34#8 [(0x7E8000, 0x4B#8)] with pbr := 0x7E#8 }
    (fun t => (t.sp, t.readByte .data 0x0001FF#24)) = some (0x01FE#16, 0x7E#8) := by decide

/-- TG16, R300. -/
theorem test_TG16_phy : look { native 0x24#8 [(0x008000, 0x5A#8)] with y := 0x0102#16 }
    (fun t => (t.sp, t.readByte .data 0x0001FE#24, t.readByte .data 0x0001FF#24)) = some (0x01FD#16, 0x02#8, 0x01#8) := by decide

/-- TG17, R301. -/
theorem test_TG17_phb : look { native 0x34#8 [(0x008000, 0x8B#8)] with dbr := 0x7F#8 }
    (fun t => (t.sp, t.readByte .data 0x0001FF#24)) = some (0x01FE#16, 0x7F#8) := by decide

/-- TG18, R302. -/
theorem test_TG18_phx : look { native 0x34#8 [(0x008000, 0xDA#8)] with x := 0x0080#16 }
    (fun t => (t.sp, t.readByte .data 0x0001FF#24)) = some (0x01FE#16, 0x80#8) := by decide

/-- TG20, R303 R325. -/
theorem test_TG20_plp : look { native 0x24#8 [(0x0001FF, 0x34#8), (0x008000, 0x28#8)] with
        x := 0x1234#16, y := 0xABCD#16, sp := 0x01FE#16 }
    (fun t => (t.x, t.y, t.sp)) = some (0x0034#16, 0x00CD#16, 0x01FF#16) := by decide

/-- TG22, R304. -/
theorem test_TG22_pld : look { native 0x34#8 [(0x0001FF, 0x80#8), (0x008000, 0x2B#8)] with sp := 0x01FD#16 }
    (fun t => (t.sp, t.d, t.p)) = some (0x01FF#16, 0x8000#16, 0xB4#8) := by decide

/-- TG24, R305. -/
theorem test_TG24_pla : look { native 0x14#8 [(0x0001FE, 0x34#8), (0x0001FF, 0x92#8), (0x008000, 0x68#8)] with
        sp := 0x01FD#16 }
    (fun t => (t.c, t.sp, t.p)) = some (0x9234#16, 0x01FF#16, 0x94#8) := by decide

/-- TG25, R306. -/
theorem test_TG25_ply : look { native 0x34#8 [(0x0001FF, 0x7F#8), (0x008000, 0x7A#8)] with sp := 0x01FE#16 }
    (fun t => (t.y, t.sp)) = some (0x007F#16, 0x01FF#16) := by decide

/-- TG26, R307. -/
theorem test_TG26_plb : look { native 0x34#8 [(0x0001FF, 0x80#8), (0x008000, 0xAB#8)] with sp := 0x01FE#16 }
    (fun t => (t.sp, t.dbr, t.p)) = some (0x01FF#16, 0x80#8, 0xB4#8) := by decide

/-- TG27, R308. -/
theorem test_TG27_plx : look { native 0x24#8 [(0x008000, 0xFA#8)] with sp := 0x01FD#16 }
    (fun t => (t.sp, t.p)) = some (0x01FF#16, 0x26#8) := by decide

/-- TH2, R321. -/
theorem test_TH2_rep : look (native 0x34#8 [(0x008000, 0xC2#8), (0x008001, 0x30#8)])
    (fun t => (t.p, t.pc)) = some (0x04#8, 0x8002#16) := by decide

/-- TH5, R322. -/
theorem test_TH5_sep : look { native 0x04#8 [(0x008000, 0xE2#8), (0x008001, 0x30#8)] with
        c := 0x5678#16, x := 0x1234#16, y := 0xABCD#16 }
    (fun t => (t.x, t.y, t.p)) = some (0x0034#16, 0x00CD#16, 0x34#8) := by decide

/-- TH8, R323. -/
theorem test_TH8_xba : look { native 0x14#8 [(0x008000, 0xEB#8)] with c := 0x8000#16 }
    (fun t => (t.c, t.p)) = some (0x0080#16, 0x94#8) := by decide

/-- TH10, R324. -/
theorem test_TH10_xce : look (emulation 0x34#8 [(0x008000, 0xFB#8)])
    (fun t => (t.e, t.p)) = some (false, 0x35#8) := by decide

/-- TH11, R324. -/
theorem test_TH11_xce : look { native 0x05#8 [(0x008000, 0xFB#8)] with
        c := 0x5678#16, x := 0x1234#16, y := 0xABCD#16, sp := 0x1FF0#16 }
    (fun t => (t.x, t.y, t.sp)) = some (0x0034#16, 0x00CD#16, 0x01F0#16) := by decide

/-- TI1, R330 R346. -/
theorem test_TI1_brk : look { native 0xC9#8 [(0x00FFE5, 0xC0#8), (0x00FFE7, 0xB0#8), (0x00FFEB, 0xA0#8),
        (0x00FFEF, 0xD0#8), (0x7E8001, 0xAA#8)] with
        pbr := 0x7E#8 }
    (fun t => (t.sp, t.pbr, t.readByte .data 0x0001FC#24)) = some (0x01FB#16, 0x00#8, 0xC9#8) := by decide

/-- TI2, R330 R347. -/
theorem test_TI2_brk : look (emulation 0x39#8 [(0x008001, 0xAA#8), (0x00FFF5, 0xC1#8), (0x00FFFB, 0xA1#8),
      (0x00FFFD, 0x80#8), (0x00FFFF, 0xD1#8)])
    (fun t => (t.sp, t.readByte .data 0x0001FD#24, t.readByte .data 0x0001FE#24)) = some (0x01FC#16, 0x39#8, 0x02#8) := by decide

/-- TI3, R331 R346. -/
theorem test_TI3_cop : look { native 0x30#8 [(0x00FFE5, 0xC0#8), (0x00FFE7, 0xB0#8), (0x00FFEB, 0xA0#8),
        (0x00FFEF, 0xD0#8), (0x7E8000, 0x02#8), (0x7E8001, 0x05#8)] with
        pbr := 0x7E#8 }
    (fun t => (t.sp, t.pbr, t.readByte .data 0x0001FC#24)) = some (0x01FB#16, 0x00#8, 0x30#8) := by decide

/-- TI4, R331 R347. -/
theorem test_TI4_cop : look (emulation 0x34#8 [(0x008000, 0x02#8), (0x008001, 0x05#8), (0x00FFF5, 0xC1#8),
      (0x00FFFB, 0xA1#8), (0x00FFFD, 0x80#8), (0x00FFFF, 0xD1#8)])
    (fun t => (t.sp, t.readByte .data 0x0001FD#24, t.readByte .data 0x0001FE#24)) = some (0x01FC#16, 0x34#8, 0x02#8) := by decide

/-- TI5, R332. -/
theorem test_TI5_rti : look { native 0x34#8 [(0x0001FC, 0xC9#8), (0x0001FD, 0x02#8), (0x0001FE, 0x80#8),
        (0x0001FF, 0x7E#8), (0x00B000, 0x40#8)] with
        sp := 0x01FB#16, pc := 0xB000#16 }
    (fun t => (t.sp, t.pbr, t.p)) = some (0x01FF#16, 0x7E#8, 0xC9#8) := by decide

/-- TI7, R332 R325. -/
theorem test_TI7_rti : look { native 0x24#8 [(0x0001FC, 0x34#8), (0x0001FE, 0x90#8), (0x0001FF, 0x01#8),
        (0x00B000, 0x40#8)] with
        x := 0x1234#16, sp := 0x01FB#16, pc := 0xB000#16 }
    (fun t => (t.x, t.sp, t.pbr)) = some (0x0034#16, 0x01FF#16, 0x01#8) := by decide

/-- TI8, R334. -/
theorem test_TI8_wai : look (native 0x34#8 [(0x008000, 0xCB#8)])
    (fun t => (t.run, t.pc)) = some (.waiting, 0x8001#16) := by decide

/-- TI9, R335. -/
theorem test_TI9_stp : look (native 0x34#8 [(0x008000, 0xDB#8)])
    (fun t => (t.run, t.pc)) = some (.stopped, 0x8001#16) := by decide

/-- TI10, R336. -/
theorem test_TI10_wdm : look (native 0x34#8 [(0x008000, 0x42#8)])
    (fun t => (t.pc)) = some (0x8002#16) := by decide

/-- TI11, R344 R346. -/
theorem test_TI11_nop : look { native 0x38#8 [(0x00FFE5, 0xC0#8), (0x00FFE7, 0xB0#8), (0x00FFEB, 0xA0#8),
        (0x00FFEF, 0xD0#8), (0x7E8000, 0xEA#8)] with
        pbr := 0x7E#8, inputs := [{ Inputs.inactive with irq := true }] }
    (fun t => (t.sp, t.pbr, t.readByte .data 0x0001FC#24)) = some (0x01FB#16, 0x00#8, 0x38#8) := by decide

/-- TI12, R344 R341. -/
theorem test_TI12_nop : look { native 0x34#8 [(0x00FFE5, 0xC0#8), (0x00FFE7, 0xB0#8), (0x00FFEB, 0xA0#8),
        (0x00FFEF, 0xD0#8), (0x7E8000, 0xEA#8)] with
        pbr := 0x7E#8, inputs := [{ Inputs.inactive with irq := true }] }
    (fun t => (t.pc)) = some (0x8001#16) := by decide

/-- TI13, R344 R347. -/
theorem test_TI13_nop : look { emulation 0x30#8 [(0x008000, 0xEA#8), (0x00FFF5, 0xC1#8), (0x00FFFB, 0xA1#8),
        (0x00FFFD, 0x80#8), (0x00FFFF, 0xD1#8)] with
        inputs := [{ Inputs.inactive with irq := true }] }
    (fun t => (t.sp, t.readByte .data 0x0001FD#24, t.readByte .data 0x0001FF#24)) = some (0x01FC#16, 0x20#8, 0x80#8) := by decide

/-- TI14, R344 R346. -/
theorem test_TI14_nop : look { native 0x34#8 [(0x00FFE5, 0xC0#8), (0x00FFE7, 0xB0#8), (0x00FFEB, 0xA0#8),
        (0x00FFEF, 0xD0#8), (0x7E8000, 0xEA#8)] with
        pbr := 0x7E#8, inputs := [{ Inputs.inactive with nmiEdge := true }] }
    (fun t => (t.sp, t.pbr, t.readByte .data 0x0001FC#24)) = some (0x01FB#16, 0x00#8, 0x34#8) := by decide

/-- TI15, R344 R347. -/
theorem test_TI15_nop : look { emulation 0x34#8 [(0x008000, 0xEA#8), (0x00FFF5, 0xC1#8), (0x00FFFB, 0xA1#8),
        (0x00FFFD, 0x80#8), (0x00FFFF, 0xD1#8)] with
        inputs := [{ Inputs.inactive with nmiEdge := true }] }
    (fun t => (t.sp, t.readByte .data 0x0001FD#24, t.readByte .data 0x0001FF#24)) = some (0x01FC#16, 0x24#8, 0x80#8) := by decide

/-- R291's example, first step: MVP counts down and stays on itself. -/
theorem test_R291_mvp : look { native 0x24#8 [(0x008000, 0x44#8), (0x008001, 0x7F#8), (0x008002, 0x7E#8), (0x7E1001, 0x5A#8)] with
        c := 0x0001#16, x := 0x1001#16, y := 0x2001#16 }
    (fun t => (t.x, t.y, t.c, t.dbr, t.pc)) = some (0x1000#16, 0x2000#16, 0x0000#16, 0x7F#8, 0x8000#16) := by decide

/-- TB21, R185: invalid digits end no run; what is drawn is not looked at. -/
theorem test_TB21_adc : look { native 0x3C#8 [(0x008000, 0x69#8), (0x008001, 0x01#8)] with c := 0xAB0A#16 }
    (fun t => (t.pc, t.x)) = some (0x8002#16, 0x0000#16) := by decide

/-- R343: ABORT is refused. -/
theorem test_abort_refused : step { native 0x34#8 [] with inputs := [{ Inputs.inactive with abort := true }] } =
    .refused .abortAsserted := rfl

/-- R336 under nop2 (log 7). -/
theorem test_wdm : look (native 0x34#8 [(0x008000, 0x42#8), (0x008001, 0x99#8)]) (fun t => (t.pc, t.p)) =
    some (0x8002#16, 0x34#8) := by decide

/-- A device answers a free value and keeps nothing that is written to it (R65, R70, log 4). -/
theorem test_device_ignores_writes :
    let s : State := { native 0x34#8 [] with platform := [{ first := 0x2100, size := 0x100, kind := .device }] }
    (s.writeByte 0x002100#24 0x5A#8).mem = s.mem ∧ s.kindAt 0x0020FF#24 = .ram ∧ s.kindAt 0x0021FF#24 = .device ∧
      s.kindAt 0x002200#24 = .ram := by decide

/-- The pointer and the data of one LDA (dp) from one device location are two free values (R65, R78, log 4): D = $2100
and a pointer in the device, data at the pointer. -/
theorem test_device_reads_draw_apart :
    let s : State := { native 0x34#8 [] with
      d := 0x2100#16, platform := [{ first := 0, size := 0x1000000, kind := .device }] }
    s.directPointer (s.directOffset 0x00#8) = joinWord (Config.platformByte s.drawCount .pointer 0x2101)
      (Config.platformByte s.drawCount .pointer 0x2100) ∧
    s.readOp { ea := 0x002100#24, kind := .lin } .w8 = Config.platformByte s.drawCount .data 0x2100 := ⟨rfl, rfl⟩

/-! ### Witnesses: states and operands that meet the hypotheses of the statements -/

/-- A native state with 16-bit registers, nothing at a special value. -/
def wide : State :=
  { native 0x05#8 [(0x128000, 0xEA#8)] with
    c := 0x1234#16, x := 0xABCD#16, y := 0x00FE#16, sp := 0x1FFF#16, d := 0x1234#16, dbr := 0x7E#8, pbr := 0x12#8 }

/-- A native state with 8-bit registers. -/
def small : State := { native 0xF4#8 [(0x008000, 0xEA#8)] with c := 0x1299#16, x := 0x00CD#16, y := 0x00FE#16 }

/-- A state in emulation mode, the direct page aligned. -/
def old (sl : Byte) : State :=
  { emulation 0x34#8 [(0x008000, 0xEA#8)] with c := 0x1299#16, x := 0x00CD#16, d := 0x1200#16, sp := joinWord 0x01#8 sl }

theorem wide_inv : wide.Inv := ⟨by decide, by decide, by decide, by decide⟩
theorem small_inv : small.Inv := ⟨by decide, by decide, by decide, by decide⟩
theorem old_inv : (old 0xFD#8).Inv := ⟨by decide, by decide, by decide, by decide⟩

theorem witness_DecodeOfEncode : Instr.wellFormed true true (.ldaConst 0x00FF#16) = true ∧
    Instr.wellFormed false true (.ldaConst 0xFFFF#16) = true ∧ Instr.wellFormed true false (.ldxConst 0xFFFF#16) = true ∧
    Instr.wellFormed true true (.jsl 0xFFFFFF#24) = true := by decide

theorem witness_EncodeOfDecode : decode false true [0xA9#8, 0x34#8, 0x12#8, 0xEA#8] = .ok (.ldaConst 0x1234#16, [0xEA#8]) ∧
    4 ≤ [0xA9#8, 0x34#8, 0x12#8, 0xEA#8].length := by decide

theorem witness_StepRunsDecodedInstruction : wide.run = .running ∧ wide.nmiPending = false ∧
    wide.inputs.headD Inputs.inactive = Inputs.inactive ∧
    decode (wide.flag .m) (wide.flag .x)
      [wide.beginStep.readByte .fetch (bankAddr wide.pbr wide.pc), wide.beginStep.readByte .fetch (bankAddr wide.pbr (wide.pc + 1#16)),
        wide.beginStep.readByte .fetch (bankAddr wide.pbr (wide.pc + 2#16)),
        wide.beginStep.readByte .fetch (bankAddr wide.pbr (wide.pc + 3#16))] = .ok (.nop, [0x00#8, 0x00#8, 0x00#8]) ∧
    wide.kindAt 0x000000#24 ≠ .device := by decide

theorem witness_PlacedInstructionRunsNext : small.flag .m = true ∧ small.flag .x = true := by decide

/-- A sample that asserts RESET, and the same with everything else asserted too. -/
theorem witness_ResetStepSequence :
    (({ wide with inputs := [{ Inputs.inactive with reset := true }] } : State).inputs.headD Inputs.inactive).reset = true ∧
    (({ old 0x00#8 with run := .stopped, inputs := [⟨true, true, true, true⟩] } : State).inputs.headD
      Inputs.inactive).reset = true := by decide

/-- A stopped machine with nothing asserted, and one with NMI, IRQ and ABORT asserted. -/
theorem witness_StopUntilReset :
    let s : State := { wide with run := .stopped }
    let t : State := { wide with run := .stopped, nmiPending := true, inputs := [⟨false, true, true, true⟩] }
    (s.run = .stopped ∧ (s.inputs.headD Inputs.inactive).reset = false) ∧
      (t.run = .stopped ∧ (t.inputs.headD Inputs.inactive).reset = false) := by decide

/-- Waiting with a masked IRQ, and waiting with nothing asserted. -/
theorem witness_WaitUntilInterrupt :
    let s : State := { wide with run := .waiting, inputs := [{ Inputs.inactive with irq := true }] }
    let t : State := { wide with run := .waiting }
    (s.run = .waiting ∧ s.nmiPending = false ∧
      s.inputs.headD Inputs.inactive = { Inputs.inactive with irq := true } ∧ s.flag .i = true) ∧
    (t.run = .waiting ∧ t.nmiPending = false ∧ t.inputs.headD Inputs.inactive = Inputs.inactive) := by decide

/-- ABORT; an NMI edge; an NMI latched before; an unmasked IRQ in a waiting machine. -/
theorem witness_InterruptsAreTaken :
    let a : State := { wide with inputs := [⟨false, true, true, true⟩] }
    let b : State := { wide with inputs := [⟨false, true, true, false⟩] }
    let c : State := { old 0x01#8 with nmiPending := true }
    let d : State := { wide with p := 0x00#8, run := .waiting, inputs := [⟨false, false, true, false⟩] }
    (a.currentInputs.reset = false ∧ a.run ≠ .stopped ∧ a.currentInputs.abort = true) ∧
    (b.currentInputs.reset = false ∧ b.run ≠ .stopped ∧ b.currentInputs.abort = false ∧
      (b.nmiPending || b.currentInputs.nmiEdge) = true) ∧
    (c.currentInputs.reset = false ∧ c.run ≠ .stopped ∧ c.currentInputs.abort = false ∧
      (c.nmiPending || c.currentInputs.nmiEdge) = true) ∧
    (d.currentInputs.reset = false ∧ d.run ≠ .stopped ∧ d.currentInputs.abort = false ∧
      (d.nmiPending || d.currentInputs.nmiEdge) = false ∧ d.currentInputs.irq = true ∧ d.flag .i = false) := by decide

theorem witness_MaskedIrqRunsInstruction :
    let s : State := { wide with inputs := [{ Inputs.inactive with irq := true }] }
    s.run = .running ∧ s.nmiPending = false ∧ s.inputs.headD Inputs.inactive = { Inputs.inactive with irq := true } ∧
      s.flag .i = true := by decide

/-- Both modes of RTI; in emulation mode S at the top and at the bottom of page 1. -/
theorem witness_ReturnFromInterrupt : (wide.e = true → hi wide.sp = 0x01#8) ∧
    ((old 0xFF#8).e = true ∧ hi (old 0xFF#8).sp = 0x01#8) ∧ ((old 0x00#8).e = true ∧ hi (old 0x00#8).sp = 0x01#8) := by
  decide

/-- Both modes, RAM under the four bytes. -/
theorem witness_TrapThenReturnRestores :
    (wide.Inv ∧ ∀ k, k < 4 → wide.kindAt (pushSlot wide .page k) = .ram) ∧
    ((old 0xFD#8).Inv ∧ ∀ k, k < 4 → (old 0xFD#8).kindAt (pushSlot (old 0xFD#8) .page k) = .ram) :=
  ⟨⟨wide_inv, fun _ _ => rfl⟩, ⟨old_inv, fun _ _ => rfl⟩⟩

/-- RAM written; another address; a location that is ROM; the byte about to be fetched written. -/
theorem witness_MemoryReadsLastWrite :
    let r : State := { wide with platform := [{ first := 0xC00000, size := 0x10000, kind := .rom }] }
    wide.kindAt 0xFFFFFF#24 = .ram ∧ (0x000000#24 : Addr) ≠ 0xFFFFFF#24 ∧ r.kindAt 0xC00000#24 ≠ .ram ∧
      r.kindAt 0xC0FFFF#24 ≠ .ram ∧ wide.fetchAddr 3 = 0x128003#24 ∧ wide.kindAt 0x128003#24 = .ram := by decide

theorem witness_MultiByteAccesses : (MemForm.loc (.dp 0xFF#8) wide).kind = .bank0 ∧
    (MemForm.loc (.sr 0xFF#8) (old 0xFF#8)).kind = .bank0 := by decide

/-- Two memories built in different orders. -/
theorem witness_CanonicalMemoryIsExtensional :
    let m : Memory := (Memory.write ⟨[]⟩ 0 0x5A#8).write 0xFFFFFF 0xA5#8
    let n : Memory := (Memory.write ⟨[]⟩ 0xFFFFFF 0xA5#8).write 0 0x5A#8
    m.wf = true ∧ n.wf = true ∧ ∀ a : Addr, m.read a.toNat = n.read a.toNat := by
  refine ⟨by decide, by decide, fun a => ?_⟩
  simp only [Memory.read_write]
  split
  · rw [if_neg (by omega)]
  · rfl

/-- Native mode; emulation mode with DL at $01 and at $FF; emulation mode with DL = $00. -/
theorem witness_DirectPageAddresses :
    let a : State := { old 0xFF#8 with d := 0x1201#16 }
    let b : State := { old 0xFF#8 with d := 0xFFFF#16 }
    (wide.e = false ∨ wide.d.toNat % 256 ≠ 0) ∧ (a.e = true ∧ a.d.toNat % 256 ≠ 0) ∧
      (b.e = true ∧ b.d.toNat % 256 ≠ 0) ∧ ((old 0xFF#8).e = true ∧ (old 0xFF#8).d.toNat % 256 = 0) := by decide

/-- The same states for the pointers: native, DL = $01 and $FF, DL = $00. -/
theorem witness_IndirectAddresses :
    let a : State := { old 0xFF#8 with d := 0x0001#16 }
    let b : State := { old 0xFF#8 with d := 0xFFFF#16 }
    let c : State := { old 0xFF#8 with d := 0xFF00#16 }
    (wide.e = false ∨ wide.d.toNat % 256 ≠ 0) ∧ (a.e = true ∧ a.d.toNat % 256 ≠ 0) ∧
      (b.e = true ∧ b.d.toNat % 256 ≠ 0) ∧ (c.e = true ∧ c.d.toNat % 256 = 0) := by decide

theorem witness_AddWithCarryBinary : wide.flag .d = false ∧ small.flag .d = false := by decide
theorem witness_SubtractWithBorrowBinary : wide.flag .d = false ∧ small.flag .d = false := by decide
theorem witness_OverflowIsSigned : wide.flag .d = false ∧ small.flag .d = false := by decide

theorem digits_valid (k a : Nat) : decimalDigitsValid k a = true ↔ Digits k a := by
  induction k generalizing a with
  | zero => simp [decimalDigitsValid, Digits]
  | succ k ih => simp [decimalDigitsValid, Digits, ih]

/-- $99 at 8 bits as a constant, in memory at every form's location ($00 there), and $9999 at 16 bits. -/
theorem witness_DecimalArithmetic :
    let s : State := { small with p := 0x3D#8 }
    let t : State := { wide with p := 0x0D#8, c := 0x9999#16 }
    DecimalOperands s (.const 0x0099#16) ∧ DecimalOperands t (.const 0x9999#16) ∧
      DecimalOperands s (.mem (.indDpX 0x10#8)) ∧ DecimalOperands s (.mem (.sr 0x10#8)) ∧
      DecimalOperands s (.mem (.dp 0x10#8)) ∧ DecimalOperands s (.mem (.longIndDp 0x10#8)) ∧
      DecimalOperands s (.mem (.addr 0x1234#16)) ∧ DecimalOperands s (.mem (.long 0x123456#24)) ∧
      DecimalOperands s (.mem (.indDpY 0x10#8)) ∧ DecimalOperands s (.mem (.indDp 0x10#8)) ∧
      DecimalOperands s (.mem (.indSrY 0x10#8)) ∧ DecimalOperands s (.mem (.dpX 0x10#8)) ∧
      DecimalOperands s (.mem (.longIndDpY 0x10#8)) ∧ DecimalOperands s (.mem (.addrY 0x1234#16)) ∧
      DecimalOperands s (.mem (.addrX 0x1234#16)) ∧ DecimalOperands s (.mem (.longX 0x123456#24)) := by
  simp only [DecimalOperands, ← digits_valid]
  decide

/-- Both modes, RAM under the stack; native mode for JSL. -/
theorem witness_CallThenReturnResumes :
    (wide.Inv ∧ (∀ k, k < 3 → wide.kindAt (pushSlot wide .page k) = .ram) ∧ wide.e = false) ∧
    ((old 0xFD#8).Inv ∧ ∀ k, k < 3 → (old 0xFD#8).kindAt (pushSlot (old 0xFD#8) .page k) = .ram) :=
  ⟨⟨wide_inv, fun _ _ => rfl, rfl⟩, ⟨old_inv, fun _ _ => rfl⟩⟩

theorem witness_TransfersToRegisters : wide.Inv ∧ small.Inv ∧ (old 0xFD#8).Inv := ⟨wide_inv, small_inv, old_inv⟩
theorem witness_RegisterPushes : wide.Inv ∧ small.Inv ∧ (old 0xFD#8).Inv := ⟨wide_inv, small_inv, old_inv⟩
theorem witness_StatusMasksAndPull : wide.Inv ∧ small.Inv ∧ (old 0xFD#8).Inv := ⟨wide_inv, small_inv, old_inv⟩
theorem witness_ExchangeInstructions : wide.Inv ∧ small.Inv ∧ (old 0xFD#8).Inv := ⟨wide_inv, small_inv, old_inv⟩

/-- 16-bit indexes, banks $12 and $7F; the shortest and the longest block. -/
theorem witness_MvnCopiesBlock :
    let s : State := { wide with c := 0x0000#16 }
    let t : State := { wide with c := 0xFFFF#16 }
    (s.flag .x = false ∧ (0x12#8 : Byte) ≠ 0x7F#8 ∧ ∀ o : Word, s.kindAt (bankAddr 0x7F#8 o) = .ram) ∧
    (t.flag .x = false ∧ (0x12#8 : Byte) ≠ 0x7F#8 ∧ ∀ o : Word, t.kindAt (bankAddr 0x7F#8 o) = .ram) :=
  ⟨⟨by decide, by decide, fun _ => rfl⟩, ⟨by decide, by decide, fun _ => rfl⟩⟩

theorem witness_PushThenPullRestores :
    (wide.Inv ∧ ∀ k, k < 2 → wide.kindAt (pushSlot wide .page k) = .ram) ∧
    ((old 0xFD#8).Inv ∧ ∀ k, k < 2 → (old 0xFD#8).kindAt (pushSlot (old 0xFD#8) .page k) = .ram) :=
  ⟨⟨wide_inv, fun _ _ => rfl⟩, ⟨old_inv, fun _ _ => rfl⟩⟩

/-- Every clause at its boundary: SL = $01, $02, $FE, $FD and $FC. -/
theorem witness_StackCornerOnlyAtPageEdge :
    ((old 0x01#8).e = true ∧ hi (old 0x01#8).sp = 0x01#8 ∧ 1 ≤ (lo (old 0x01#8).sp).toNat) ∧
    ((old 0x02#8).e = true ∧ hi (old 0x02#8).sp = 0x01#8 ∧ 2 ≤ (lo (old 0x02#8).sp).toNat) ∧
    ((old 0xFE#8).e = true ∧ hi (old 0xFE#8).sp = 0x01#8 ∧ (lo (old 0xFE#8).sp).toNat ≤ 0xFE) ∧
    ((old 0xFD#8).e = true ∧ hi (old 0xFD#8).sp = 0x01#8 ∧ (lo (old 0xFD#8).sp).toNat ≤ 0xFD) ∧
    ((old 0xFC#8).e = true ∧ hi (old 0xFC#8).sp = 0x01#8 ∧ (lo (old 0xFC#8).sp).toNat ≤ 0xFC) := by decide

/-- A sample with ABORT in a running machine, and the three ways that a step is not refused. -/
theorem witness_OnlyAbortIsRefused :
    let a : State := { wide with inputs := [⟨false, false, false, true⟩] }
    let b : State := { wide with inputs := [⟨true, false, false, true⟩] }
    let c : State := { wide with run := .stopped, inputs := [⟨false, false, false, true⟩] }
    (a.currentInputs.abort = true ∧ a.currentInputs.reset = false ∧ a.run ≠ .stopped) ∧
      b.currentInputs.reset = true ∧ c.run = .stopped ∧ wide.currentInputs.abort = false := by decide

/-- A state with the invariant and the state after its step. -/
theorem witness_StepKeepsInvariant : wide.Inv ∧ step wide = .next { wide with pc := 0x8001#16, drawCount := 1 } :=
  ⟨wide_inv, rfl⟩

theorem witness_ControlRegisterWriters : exec .tcd wide =
    .next { wide with d := 0x1234#16, p := 0x05#8, pc := 0x8001#16 } := rfl

theorem witness_WidthAndMaskFlagWriters : exec (.sep 0x10#8) wide =
    .next { wide with x := 0x00CD#16, p := 0x15#8, pc := 0x8002#16 } := rfl

end Sys2Proof.Tests
end

section
/-! What the decoder reads from four bytes, and the step of a machine that nothing interrupts. -/

namespace Sys2Proof.Proofs

open Machine

/-! ### The decoder on four bytes -/

/-- No format is longer than four bytes (R92). -/
theorem form_length_le_four (m x : Bool) (f : Form) : f.length m x ≤ 4 := by
  cases f with
  | immM => cases m <;> simp [Form.length]
  | immX => cases x <;> simp [Form.length]
  | _ => simp [Form.length]

/-- Four bytes are enough for every instruction (R92, R104): the decoder reads the instruction of the first byte, and
leaves what its length does not take. -/
theorem decode_four (m x : Bool) (b0 b1 b2 b3 : Byte) :
    decode m x [b0, b1, b2, b3] = .ok (decodeBytes m x b0 b1 b2 b3,
      [b1, b2, b3].drop ((decodeBytes m x b0 b1 b2 b3).length m x - 1)) := by
  have hlen : ¬ [b1, b2, b3].length < (decodeBytes m x b0 b1 b2 b3).length m x - 1 := by
    have h := form_length_le_four m x (decodeBytes m x b0 b1 b2 b3).form
    simp only [Instr.length, List.length_cons, List.length_nil]
    omega
  exact if_neg hlen

/-- A constant read at the width in force fits that width (R98). -/
@[simp] theorem constFits_constField (narrow : Bool) (b2 b1 : Byte) :
    constFits narrow (constField narrow b2 b1) = true := by
  cases narrow
  · rfl
  · simp [constFits, constField, hi_zext16]

/-- Whatever stands in memory decodes to a well-formed instruction: row by row of the opcode table (R102), only the
twelve `const` opcodes ask for anything, and each reads its constant at the width in force. -/
theorem decodeBytes_wellFormed (m x : Bool) (b0 b1 b2 b3 : Byte) :
    (decodeBytes m x b0 b1 b2 b3).wellFormed m x = true := by
  unfold decodeBytes
  dsimp only
  split
  · unfold decodeRow0; split <;> simp [Instr.wellFormed]
  · unfold decodeRow1; split <;> rfl
  · unfold decodeRow2; split <;> simp [Instr.wellFormed]
  · unfold decodeRow3; split <;> rfl
  · unfold decodeRow4; split <;> simp [Instr.wellFormed]
  · unfold decodeRow5; split <;> rfl
  · unfold decodeRow6; split <;> simp [Instr.wellFormed]
  · unfold decodeRow7; split <;> rfl
  · unfold decodeRow8; split <;> simp [Instr.wellFormed]
  · unfold decodeRow9; split <;> rfl
  · unfold decodeRowA; split <;> simp [Instr.wellFormed]
  · unfold decodeRowB; split <;> rfl
  · unfold decodeRowC; split <;> simp [Instr.wellFormed]
  · unfold decodeRowD; split <;> rfl
  · unfold decodeRowE; split <;> simp [Instr.wellFormed]
  · unfold decodeRowF; split <;> rfl

/-! ### A step that nothing interrupts -/

/-- With nothing asserted and no NMI latched, no trap is due (R344). -/
theorem noTrap_of_inactive {s : State} (hn : s.nmiPending = false) (hi : s.currentInputs = Inputs.inactive) :
    s.NoTrap := by
  simp [State.NoTrap, hn, hi, Inputs.inactive]

/-- A running machine with nothing asserted and no NMI latched runs the instruction at PBR:PC (R7). -/
theorem step_of_inactive {s : State} (hr : s.run = .running) (hn : s.nmiPending = false)
    (hi : s.currentInputs = Inputs.inactive) : step s = exec s.beginStep.fetchInstr s.beginStep :=
  step_runs (by rw [hi]; rfl) hr (noTrap_of_inactive hn hi)

/-- Using up a sample changes no read of RAM or ROM; a device draws anew at each step. -/
theorem beginStep_readByte_of_not_device {s : State} {a : Addr} (h : s.kindAt a ≠ .device) (use : Access) :
    s.beginStep.readByte use a = s.readByte use a := by
  simp only [State.readByte, beginStep_kindAt, beginStep_mem]
  cases hk : s.kindAt a
  case ram => rfl
  case rom => rfl
  case device => exact absurd hk h

/-- The bytes of a fetch stand at PC and after it, wrapping in the program bank (R32). -/
theorem fetchInstr_eq (s : State) :
    s.fetchInstr = decodeBytes (s.flag .m) (s.flag .x) (s.readByte .fetch (bankAddr s.pbr s.pc))
      (s.readByte .fetch (bankAddr s.pbr (s.pc + 1#16))) (s.readByte .fetch (bankAddr s.pbr (s.pc + 2#16)))
      (s.readByte .fetch (bankAddr s.pbr (s.pc + 3#16))) := by
  have h0 : s.pcNext 0 = s.pc := BitVec.add_zero s.pc
  simp only [State.fetchInstr, State.fetchByte, State.fetchAddr, h0]
  rfl

/-- Where a word is placed, the next step's sample asserts nothing (log 17). -/
theorem withFetchWord_currentInputs (s : State) (nbits w : Nat) :
    (s.withFetchWord nbits w).currentInputs = Inputs.inactive := by
  have h : (s.withFetchWord nbits w).currentInputs = s.readyToFetch.currentInputs := rfl
  rw [h, State.currentInputs, State.readyToFetch]
  cases s.inputs <;> rfl

/-- The step of a state with a placed table word runs the instruction of the word's four lowest bytes. -/
theorem step_withFetchWord (s : State) (nbits w : Nat) :
    step (s.withFetchWord nbits w) =
      exec (decodeBytes (s.flag .m) (s.flag .x) (tableByte nbits w 0) (tableByte nbits w 1) (tableByte nbits w 2)
        (tableByte nbits w 3)) (s.withFetchWord nbits w).beginStep := by
  rw [step_of_inactive rfl rfl (withFetchWord_currentInputs s nbits w), withFetchWord_fetchInstr]

/-- A table word's instruction is that of its four lowest bytes at m = x = 1. -/
theorem decodeTableWord_eq (nbits w : Nat) :
    decodeTableWord nbits w = some (decodeBytes true true (tableByte nbits w 0) (tableByte nbits w 1)
      (tableByte nbits w 2) (tableByte nbits w 3)) := by
  rw [decodeTableWord, decode_four]

/-! ### The obligations -/

/-- Settles O6: the decoder is total on four bytes, and the placed bytes are what the next step fetches. -/
theorem placedInstructionRunsNext : Obligations.PlacedInstructionRunsNext := by
  unfold Obligations.PlacedInstructionRunsNext
  intro s nbits w
  refine ⟨_, _, decode_four _ _ _ _ _ _, decodeBytes_wellFormed _ _ _ _ _ _, step_withFetchWord s nbits w, ?_⟩
  intro hm hx
  rw [decodeTableWord_eq, hm, hx]
  rfl

/-- Settles O5: what the decoder answers on the four bytes of the fetch is the instruction that the step runs. -/
theorem stepRunsDecodedInstruction : Obligations.StepRunsDecodedInstruction := by
  unfold Obligations.StepRunsDecodedInstruction
  intro s i rest hrun hnmi hinactive t hdecode
  have ht : t = s.beginStep := rfl
  rw [decode_four] at hdecode
  obtain ⟨rfl, -⟩ := Prod.mk.inj (Except.ok.inj hdecode)
  refine ⟨decodeBytes_wellFormed _ _ _ _ _ _, ?_, fun a ha => beginStep_readByte_of_not_device ha .fetch⟩
  rw [step_of_inactive hrun hnmi hinactive, fetchInstr_eq, ht]
  rfl

end Sys2Proof.Proofs
end

section
/-! What an instruction may change, said once for all 256: the registers and flags that steer the machine change only by
the instructions that name them (`Writes`), and the invariant is kept (`exec_effect`). The statements about every
instruction and every step are read off this. -/

namespace Sys2Proof.Proofs

open Machine

/-! ### The registers and flags that steer the machine -/

/-- The part of the state that only a few instructions write: e, D, DBR, PBR, the run state, the machine's surroundings,
and the flags m, x, d, i. -/
structure Control where
  e : Bool
  d : Word
  dbr : Byte
  pbr : Byte
  run : RunState
  nmiPending : Bool
  platform : List Window
  inputs : List Inputs
  drawCount : Nat
  narrowAcc : Bool
  narrowIndex : Bool
  decimal : Bool
  irqMask : Bool

/-- The control part of a state. -/
def controlOf (s : State) : Control where
  e := s.e
  d := s.d
  dbr := s.dbr
  pbr := s.pbr
  run := s.run
  nmiPending := s.nmiPending
  platform := s.platform
  inputs := s.inputs
  drawCount := s.drawCount
  narrowAcc := s.flag .m
  narrowIndex := s.flag .x
  decimal := s.flag .d
  irqMask := s.flag .i

/-! ### The instructions that write the control part -/

def WritesDirectPage (i : Instr) : Prop := i = .tcd ∨ i = .pld

def WritesDataBank (i : Instr) : Prop := i = .plb ∨ (∃ a b, i = .mvn a b) ∨ (∃ a b, i = .mvp a b)

def WritesProgramBank (i : Instr) : Prop :=
  (∃ a, i = .jmpLong a) ∨ (∃ a, i = .jmpLongIndAddr a) ∨ (∃ a, i = .jsl a) ∨ i = .rtl ∨ i = .rti ∨
    (∃ a, i = .brk a) ∨ (∃ a, i = .cop a)

def WritesRunState (i : Instr) : Prop := i = .wai ∨ i = .stp

/-- P is written whole, and rule R325 follows. -/
def WritesStatus (i : Instr) : Prop := i = .plp ∨ i = .rti ∨ (∃ a, i = .rep a) ∨ (∃ a, i = .sep a)

/-- A software trap: d and i are written (R330, R331). -/
def EntersTrap (i : Instr) : Prop := (∃ a, i = .brk a) ∨ (∃ a, i = .cop a)

def WritesDecimal (i : Instr) : Prop := i = .sed ∨ i = .cld

def WritesIrqMask (i : Instr) : Prop := i = .sei ∨ i = .cli

/-- What instruction `i` may make of the control part `a`: it leaves `a` as it is, or changes what it is a writer of. -/
inductive Writes (i : Instr) (a : Control) : Control → Prop where
  | nothing : Writes i a a
  | directPage (hi : WritesDirectPage i) (v : Word) : Writes i a { a with d := v }
  | dataBank (hi : WritesDataBank i) (v : Byte) : Writes i a { a with dbr := v }
  | programBank (hi : WritesProgramBank i) (v : Byte) : Writes i a { a with pbr := v }
  | trap (hb : WritesProgramBank i) (ht : EntersTrap i) (v : Byte) :
    Writes i a { a with pbr := v, decimal := false, irqMask := true }
  | runState (hi : WritesRunState i) (r : RunState) : Writes i a { a with run := r }
  | decimal (hi : WritesDecimal i) (v : Bool) : Writes i a { a with decimal := v }
  | irqMask (hi : WritesIrqMask i) (v : Bool) : Writes i a { a with irqMask := v }
  | status (hi : WritesStatus i) (m x d irq : Bool) :
    Writes i a { a with narrowAcc := m, narrowIndex := x, decimal := d, irqMask := irq }
  | statusAndBank (hi : WritesStatus i) (hb : WritesProgramBank i) (v : Byte) (m x d irq : Bool) :
    Writes i a { a with pbr := v, narrowAcc := m, narrowIndex := x, decimal := d, irqMask := irq }
  | mode (hi : i = .xce) (e m x : Bool) : Writes i a { a with e := e, narrowAcc := m, narrowIndex := x }

/-! The writers of each field. -/

section
variable {i : Instr} {a b : Control}

theorem Writes.e_or (h : Writes i a b) : b.e = a.e ∨ i = .xce := by cases h <;> simp [*]
theorem Writes.d_or (h : Writes i a b) : b.d = a.d ∨ WritesDirectPage i := by cases h <;> simp [*]
theorem Writes.dbr_or (h : Writes i a b) : b.dbr = a.dbr ∨ WritesDataBank i := by cases h <;> simp [*]
theorem Writes.pbr_or (h : Writes i a b) : b.pbr = a.pbr ∨ WritesProgramBank i := by cases h <;> simp [*]
theorem Writes.run_or (h : Writes i a b) : b.run = a.run ∨ WritesRunState i := by cases h <;> simp [*]

theorem Writes.surroundings (h : Writes i a b) :
    b.nmiPending = a.nmiPending ∧ b.platform = a.platform ∧ b.inputs = a.inputs ∧ b.drawCount = a.drawCount := by
  cases h <;> simp

theorem Writes.narrowAcc_or (h : Writes i a b) : b.narrowAcc = a.narrowAcc ∨ WritesStatus i ∨ i = .xce := by
  cases h <;> simp [*]

theorem Writes.narrowIndex_or (h : Writes i a b) : b.narrowIndex = a.narrowIndex ∨ WritesStatus i ∨ i = .xce := by
  cases h <;> simp [*]

theorem Writes.decimal_or (h : Writes i a b) :
    b.decimal = a.decimal ∨ WritesStatus i ∨ EntersTrap i ∨ WritesDecimal i := by
  cases h <;> simp [*]

theorem Writes.irqMask_or (h : Writes i a b) :
    b.irqMask = a.irqMask ∨ WritesStatus i ∨ EntersTrap i ∨ WritesIrqMask i := by
  cases h <;> simp [*]

end

/-! ### Operations that write nothing of the control part -/

/-- `t` keeps what the invariant needs of `s`, and its whole control part. -/
structure Plain (s t : State) : Prop where
  keeps : s.Keeps t
  control : controlOf t = controlOf s

theorem Plain.trans {s t u : State} (h : Plain s t) (k : Plain t u) : Plain s u :=
  ⟨h.keeps.trans k.keeps, k.control.trans h.control⟩

/-- A change of C alone. -/
theorem plain_setC (s : State) (v : Word) : Plain s { s with c := v } := ⟨.of_same rfl rfl rfl rfl rfl rfl id, rfl⟩
theorem plain_advance (s : State) (n : Nat) : Plain s (s.advance n) := ⟨keeps_advance s n, by simp [controlOf]⟩
theorem plain_jump (s : State) (a : Word) : Plain s (s.jump a) := ⟨keeps_jump s a, by simp [controlOf]⟩
theorem plain_branchIf (s : State) (b : Bool) (disp : Byte) : Plain s (s.branchIf b disp) :=
  ⟨keeps_branchIf s b disp, by simp [controlOf]⟩
theorem plain_setNZ {w : Nat} (s : State) (v : BitVec w) : Plain s (s.setNZ v) :=
  ⟨keeps_setNZ s v, by simp [controlOf]⟩

/-- CLC, SEC and CLV write a flag that is no part of the control part. -/
theorem plain_setFlag (s : State) (f : Flag) (b : Bool) (hf : f = .c ∨ f = .v) : Plain s (s.setFlag f b) := by
  obtain rfl | rfl := hf
  · exact ⟨keeps_setFlag s .c b (by decide) (by decide), by simp [controlOf]⟩
  · exact ⟨keeps_setFlag s .v b (by decide) (by decide), by simp [controlOf]⟩

/-! Registers -/

theorem plain_setAcc (s : State) (w : Width) (v : BitVec w.bits) : Plain s (s.setAcc w v) := plain_setC s _

theorem plain_setX {s : State} {w : Width} (hw : w = s.wXY) (v : BitVec w.bits) : Plain s (s.setX w v) := by
  subst hw; exact ⟨keeps_setX s v, by simp [controlOf]⟩

theorem plain_setY {s : State} {w : Width} (hw : w = s.wXY) (v : BitVec w.bits) : Plain s (s.setY w v) := by
  subst hw; exact ⟨keeps_setY s v, by simp [controlOf]⟩

theorem plain_setStackPointer (s : State) (v : Word) : Plain s (s.setStackPointer v) :=
  ⟨keeps_setStackPointer s v, by simp [controlOf]⟩
theorem plain_loadAcc (s : State) (w : Width) (o : Operand) : Plain s (s.loadAcc w o) :=
  ⟨keeps_loadAcc s w o, by simp [controlOf]⟩
theorem plain_loadX (s : State) (o : Operand) : Plain s (s.loadX s.wXY o) := ⟨keeps_loadX s o, by simp [controlOf]⟩
theorem plain_loadY (s : State) (o : Operand) : Plain s (s.loadY s.wXY o) := ⟨keeps_loadY s o, by simp [controlOf]⟩
theorem plain_replaceX (s : State) (v : BitVec s.wXY.bits) : Plain s (s.replaceX s.wXY v) :=
  ⟨keeps_replaceX s v, by simp [controlOf]⟩
theorem plain_replaceY (s : State) (v : BitVec s.wXY.bits) : Plain s (s.replaceY s.wXY v) :=
  ⟨keeps_replaceY s v, by simp [controlOf]⟩
theorem plain_transferAcc (s : State) (w : Width) (v : BitVec w.bits) : Plain s (s.transferAcc w v) :=
  ⟨keeps_transferAcc s w v, by simp [controlOf]⟩
theorem plain_transferX (s : State) (v : BitVec s.wXY.bits) : Plain s (s.transferX s.wXY v) :=
  ⟨keeps_transferX s v, by simp [controlOf]⟩
theorem plain_transferY (s : State) (v : BitVec s.wXY.bits) : Plain s (s.transferY s.wXY v) :=
  ⟨keeps_transferY s v, by simp [controlOf]⟩

/-- TXY and TYX copy an index whole: a high byte that is zero in one is zero in the other (R275, R279). -/
theorem plain_copyXToY (s : State) : Plain s { s with y := s.x } :=
  ⟨⟨rfl, rfl, rfl, fun _ h => h, fun _ hx _ => ⟨hx, hx⟩, id⟩, rfl⟩
theorem plain_copyYToX (s : State) : Plain s { s with x := s.y } :=
  ⟨⟨rfl, rfl, rfl, fun _ h => h, fun _ _ hy => ⟨hy, hy⟩, id⟩, rfl⟩

/-! Arithmetic, logic and memory -/

theorem plain_addWithCarry (s : State) (w : Width) (o : Operand) : Plain s (s.addWithCarry w o) :=
  ⟨keeps_addWithCarry s w o, by simp [controlOf]⟩
theorem plain_subWithCarry (s : State) (w : Width) (o : Operand) : Plain s (s.subWithCarry w o) :=
  ⟨keeps_subWithCarry s w o, by simp [controlOf]⟩
theorem plain_andAcc (s : State) (w : Width) (o : Operand) : Plain s (s.andAcc w o) :=
  ⟨keeps_andAcc s w o, by simp [controlOf]⟩
theorem plain_orAcc (s : State) (w : Width) (o : Operand) : Plain s (s.orAcc w o) :=
  ⟨keeps_orAcc s w o, by simp [controlOf]⟩
theorem plain_xorAcc (s : State) (w : Width) (o : Operand) : Plain s (s.xorAcc w o) :=
  ⟨keeps_xorAcc s w o, by simp [controlOf]⟩
theorem plain_bitMemory (s : State) (w : Width) (f : MemForm) : Plain s (s.bitMemory w f) :=
  ⟨keeps_bitMemory s w f, by simp [controlOf]⟩
theorem plain_bitConstant (s : State) (w : Width) (k : Word) : Plain s (s.bitConstant w k) :=
  ⟨keeps_bitConstant s w k, by simp [controlOf]⟩
theorem plain_compare (s : State) (w : Width) (r : BitVec w.bits) (o : Operand) : Plain s (s.compare w r o) :=
  ⟨keeps_compare s w r o, by simp [controlOf]⟩
theorem plain_store (s : State) (w : Width) (f : MemForm) (v : BitVec w.bits) : Plain s (s.store w f v) :=
  ⟨keeps_store s w f v, by simp [controlOf]⟩
theorem plain_testReset (s : State) (w : Width) (f : MemForm) : Plain s (s.testReset w f) :=
  ⟨keeps_testReset s w f, by simp [controlOf]⟩
theorem plain_testSet (s : State) (w : Width) (f : MemForm) : Plain s (s.testSet w f) :=
  ⟨keeps_testSet s w f, by simp [controlOf]⟩
theorem plain_increment (s : State) (w : Width) (g : Target) : Plain s (s.increment w g) :=
  ⟨keeps_increment s w g, by simp [controlOf]⟩
theorem plain_decrement (s : State) (w : Width) (g : Target) : Plain s (s.decrement w g) :=
  ⟨keeps_decrement s w g, by simp [controlOf]⟩
theorem plain_shiftTarget (s : State) (w : Width) (g : Target) (o : ShiftOutcome w.bits) :
    Plain s (s.shiftTarget w g o) :=
  ⟨keeps_shiftTarget s w g o, by simp [controlOf]⟩

/-! The stack -/

theorem plain_push8 (s : State) (v : Byte) : Plain s (s.push8 .page v) := ⟨keeps_push8 s v, by simp [controlOf]⟩
theorem plain_pushAtWidth (s : State) (w : Width) (v : BitVec w.bits) : Plain s (s.pushAtWidth w v) :=
  ⟨keeps_pushAtWidth s w v, by simp [controlOf]⟩
theorem plain_pushWide (s : State) (v : Word) (n : Nat) : Plain s (s.pushWide v n) :=
  ⟨keeps_pushWide s v n, by simp [controlOf]⟩
theorem plain_pushReturn (s : State) (n : Nat) : Plain s (s.pushReturn .page n) :=
  ⟨keeps_pushReturn s n, by simp [controlOf]⟩
theorem plain_pull8 (s : State) : Plain s (s.pull8 .page).2 := ⟨keeps_pull8 s, by simp [controlOf]⟩
theorem plain_pull16 (s : State) : Plain s (s.pull16 .page).2 := ⟨keeps_pull16 s, by simp [controlOf]⟩
theorem plain_pullReg (s : State) (w : Width) : Plain s (s.pullReg w).2 := ⟨keeps_pullReg s w, by simp [controlOf]⟩

/-- How RTI gets PC back (R332). -/
theorem plain_pullPC (s : State) : Plain s ((s.pull16 .page).2.jump (s.pull16 .page).1) :=
  (plain_pull16 s).trans (plain_jump _ _)

/-- PLA (R305). -/
theorem plain_pullAcc (s : State) (w : Width) : Plain s ((s.pullReg w).2.setAcc w (s.pullReg w).1) :=
  (plain_pullReg s w).trans (plain_setAcc _ w _)

/-- PLX (R308): the pull leaves the width of the indexes as it was. -/
theorem plain_pullX (s : State) : Plain s ((s.pullReg s.wXY).2.setX s.wXY (s.pullReg s.wXY).1) :=
  (plain_pullReg s s.wXY).trans (plain_setX (pullReg_wXY s s.wXY).symm _)

/-- PLY (R306). -/
theorem plain_pullY (s : State) : Plain s ((s.pullReg s.wXY).2.setY s.wXY (s.pullReg s.wXY).1) :=
  (plain_pullReg s s.wXY).trans (plain_setY (pullReg_wXY s s.wXY).symm _)

/-- How every register write with n and z ends. -/
theorem Plain.showNZ {s t : State} (h : Plain s t) {w : Nat} (v : BitVec w) (n : Nat) :
    Plain s ((t.setNZ v).advance n) :=
  (h.trans (plain_setNZ t v)).trans (plain_advance _ n)

/-! The free rule of R311: the control part is left alone, memory keeps its form. -/

theorem controlOf_restoreStackPage (s : State) : controlOf s.restoreStackPage = controlOf s := rfl
theorem controlOf_jumpLong (s : State) (a : Addr) :
    controlOf (s.jumpLong a) = { controlOf s with pbr := addrBank a } := rfl
theorem controlOf_push8 (s : State) (r : StackRule) (v : Byte) : controlOf (s.push8 r v) = controlOf s := rfl
theorem controlOf_pushReturn (s : State) (r : StackRule) (n : Nat) : controlOf (s.pushReturn r n) = controlOf s := by
  simp [controlOf]

theorem pushReturn_mem_wf {s : State} (h : s.mem.wf = true) (r : StackRule) (n : Nat) :
    (s.pushReturn r n).mem.wf = true := by
  unfold State.pushReturn; exact push16_mem_wf h r _

/-- JSR (addr,X) pushes by the free rule and forces SH at its end (R248, R311). -/
theorem plain_callFree (s : State) (n : Nat) (a : Word) :
    Plain s (((s.pushReturn .free n).jump a).restoreStackPage) :=
  ⟨keeps_restoreStackPage (by simp) (by simp) (by simp) (by simp) (by simp) fun h => by
      rw [jump_mem]; exact pushReturn_mem_wf h .free n,
    by simp [controlOf]⟩

/-! ### What an instruction does to the control part and the invariant -/

/-- Between `s` and `t` instruction `i` writes no more of the control part than it may, and keeps the invariant. -/
structure Effect (i : Instr) (s t : State) : Prop where
  control : Writes i (controlOf s) (controlOf t)
  inv : s.Inv → t.Inv

theorem Plain.effect {s t : State} (h : Plain s t) {i : Instr} : Effect i s t :=
  ⟨h.control ▸ .nothing, h.keeps.inv⟩

/-- A plain operation after another leaves its effect what it is. -/
theorem Effect.andThen {i : Instr} {s t u : State} (h : Effect i s t) (k : Plain t u) : Effect i s u :=
  ⟨k.control ▸ h.control, fun hs => k.keeps.inv (h.inv hs)⟩

/-- And so does one before it. -/
theorem Plain.andThen {i : Instr} {s t u : State} (h : Plain s t) (k : Effect i t u) : Effect i s u :=
  ⟨h.control ▸ k.control, fun hs => k.inv (h.keeps.inv hs)⟩

section
variable {i : Instr}

/-- BRK, COP (R330, R331). -/
theorem effect_takeTrap (hb : WritesProgramBank i) (ht : EntersTrap i) (s : State) (k : TrapCause) (ret : Word) :
    Effect i s (s.takeTrap k ret) where
  control := by
    have hc : controlOf (s.takeTrap k ret) = { controlOf s with pbr := 0x00#8, decimal := false, irqMask := true } := by
      simp [controlOf]
    exact hc ▸ .trap hb ht _
  inv := (keeps_takeTrap s k ret).inv

/-- JMP long, JMP [addr] (R242, R245). -/
theorem effect_jumpLong (hi : WritesProgramBank i) (s : State) (a : Addr) : Effect i s (s.jumpLong a) :=
  ⟨.programBank hi _, (keeps_jumpLong s a).inv⟩

/-- MVN, MVP (R290). -/
theorem effect_blockMove (hi : WritesDataBank i) (s : State) (k : Word) (src dest : Byte) :
    Effect i s (s.blockMove k src dest) :=
  ⟨.dataBank hi dest, (keeps_blockMove s k src dest).inv⟩

/-- WAI, STP (R334, R335). -/
theorem effect_setRun (hi : WritesRunState i) (s : State) (a : Word) (r : RunState) :
    Effect i s { s with pc := a, run := r } :=
  ⟨.runState hi r, State.Keeps.inv (.of_same rfl rfl rfl rfl rfl rfl id)⟩

/-- CLD, SED (R265, R266). -/
theorem effect_setDecimal (hi : WritesDecimal i) (s : State) (v : Bool) : Effect i s (s.setFlag .d v) where
  control := by
    have hc : controlOf (s.setFlag .d v) = { controlOf s with decimal := v } := by simp [controlOf]
    exact hc ▸ .decimal hi v
  inv := (keeps_setFlag s .d v (by decide) (by decide)).inv

/-- CLI, SEI (R262, R263). -/
theorem effect_setIrqMask (hi : WritesIrqMask i) (s : State) (v : Bool) : Effect i s (s.setFlag .i v) where
  control := by
    have hc : controlOf (s.setFlag .i v) = { controlOf s with irqMask := v } := by simp [controlOf]
    exact hc ▸ .irqMask hi v
  inv := (keeps_setFlag s .i v (by decide) (by decide)).inv

/-- PLP, REP, SEP: rule R325 follows the write of P. -/
theorem effect_writeP (hi : WritesStatus i) (s : State) (v : Byte) : Effect i s (s.writeP v) :=
  ⟨.status hi _ _ _ _, fun h => inv_writeP h.canonicalMemory v⟩

/-- TCD (R270). -/
theorem effect_setD (hi : WritesDirectPage i) (s : State) (v : Word) : Effect i s { s with d := v } :=
  ⟨.directPage hi v, State.Keeps.inv (.of_same rfl rfl rfl rfl rfl rfl id)⟩

end

/-- XCE (R324): e and c change places, and rule R325 follows. -/
theorem effect_xce (s : State) :
    Effect .xce s (State.enforceMode { s with e := s.flag .c, p := withFlag s.p .c s.e }) where
  control := by
    have hf (g : Flag) : State.flag { s with e := s.flag .c, p := withFlag s.p .c s.e } g =
      if g = .c then s.e else s.flag g := setFlag_flag s .c g s.e
    have hc : controlOf (State.enforceMode { s with e := s.flag .c, p := withFlag s.p .c s.e }) =
        { controlOf s with
          e := s.flag .c, narrowAcc := s.flag .c || s.flag .m, narrowIndex := s.flag .c || s.flag .x } := by
      simp [controlOf, hf]
    exact hc ▸ .mode rfl _ _ _
  inv h := State.Inv.mk' (enforceMode_modeInv _) h.canonicalMemory

/-- PLD pulls by the free rule and forces SH at its end (R304, R311). -/
theorem effect_pld (s : State) (v : Word) :
    Effect .pld s (State.setNZ { (s.pull16 .free).2 with d := v } v).restoreStackPage := by
  have hn := plain_setNZ { (s.pull16 .free).2 with d := v } v
  refine ⟨hn.control ▸ Writes.directPage (.inr rfl) v, State.Keeps.inv ?_⟩
  exact keeps_restoreStackPage hn.keeps.e hn.keeps.m hn.keeps.x rfl rfl id

/-- PLB, likewise (R307, R311). -/
theorem effect_plb (s : State) (v : Byte) :
    Effect .plb s (State.setNZ { (s.pull8 .free).2 with dbr := v } v).restoreStackPage := by
  have hn := plain_setNZ { (s.pull8 .free).2 with dbr := v } v
  refine ⟨hn.control ▸ Writes.dataBank (.inl rfl) v, State.Keeps.inv ?_⟩
  exact keeps_restoreStackPage hn.keeps.e hn.keeps.m hn.keeps.x rfl rfl id

/-- JSL pushes PBR and the return address by the free rule and forces SH at its end (R247, R311). -/
theorem effect_jsl (s : State) (a : Addr) :
    Effect (.jsl a) s (((s.push8 .free s.pbr).pushReturn .free 4).jumpLong a).restoreStackPage where
  control := by
    rw [controlOf_restoreStackPage, controlOf_jumpLong, controlOf_pushReturn, controlOf_push8]
    exact .programBank (by simp [WritesProgramBank]) _
  inv := State.Keeps.inv (keeps_restoreStackPage (by simp) (by simp) (by simp) (by simp) (by simp) fun h => by
    rw [jumpLong_mem]
    exact pushReturn_mem_wf (push8_mem_wf h .free s.pbr) .free 4)

/-- RTL pulls PC and PBR by the free rule and forces SH at its end (R250, R311). -/
theorem effect_rtl (s : State) (bank : Byte) (pc : Word) :
    Effect .rtl s (State.restoreStackPage { ((s.pull16 .free).2.pull8 .free).2 with pbr := bank, pc := pc }) where
  control := .programBank (by simp [WritesProgramBank]) bank
  inv := State.Keeps.inv (keeps_restoreStackPage rfl rfl rfl rfl rfl id)

theorem keeps_setPbr (s : State) (v : Byte) : s.Keeps { s with pbr := v } := .of_same rfl rfl rfl rfl rfl rfl id

/-- RTI pulls P, then PC, and in native mode PBR (R332). -/
theorem effect_rti (s : State) : Effect .rti s s.returnFromTrap := by
  have hp : Effect .rti s ((s.pull8 .page).2.writeP (s.pull8 .page).1) :=
    (plain_pull8 s).andThen (effect_writeP (.inr (.inl rfl)) _ _)
  have hpc := hp.andThen (plain_pullPC _)
  unfold State.returnFromTrap
  dsimp only
  split
  · exact hpc
  · have hbank := hpc.andThen (plain_pull8 _)
    exact ⟨.statusAndBank (.inr (.inl rfl)) (by simp [WritesProgramBank]) _ _ _ _ _,
      fun h => (keeps_setPbr _ _).inv (hbank.inv h)⟩

/-! ### Every instruction -/

/-- Every instruction answers a next state, has written no more of the control part than it may, and keeps the
invariant: the families that write nothing of it first, then the writers. -/
theorem exec_effect (i : Instr) (s : State) : ∃ t, exec i s = .next t ∧ Effect i s t := by
  cases i with
  | ldaIndDpX | ldaSr | ldaDp | ldaLongIndDp | ldaConst | ldaAddr | ldaLong | ldaIndDpY | ldaIndDp | ldaIndSrY
    | ldaDpX | ldaLongIndDpY | ldaAddrY | ldaAddrX | ldaLongX => exact ⟨_, rfl, (plain_loadAcc s _ _).effect⟩
  | ldxConst | ldxDp | ldxAddr | ldxDpY | ldxAddrY => exact ⟨_, rfl, (plain_loadX s _).effect⟩
  | ldyConst | ldyDp | ldyAddr | ldyDpX | ldyAddrX => exact ⟨_, rfl, (plain_loadY s _).effect⟩
  | stzDp | stzDpX | staIndDpX | staSr | styDp | staDp | stxDp | staLongIndDp | styAddr | staAddr | stxAddr
    | staLong | staIndDpY | staIndDp | staIndSrY | styDpX | staDpX | stxDpY | staLongIndDpY | staAddrY | stzAddr
    | staAddrX | stzAddrX | staLongX => exact ⟨_, rfl, (plain_store s _ _ _).effect⟩
  | trbDp | trbAddr => exact ⟨_, rfl, (plain_testReset s _ _).effect⟩
  | tsbDp | tsbAddr => exact ⟨_, rfl, (plain_testSet s _ _).effect⟩
  | adcIndDpX | adcSr | adcDp | adcLongIndDp | adcConst | adcAddr | adcLong | adcIndDpY | adcIndDp | adcIndSrY
    | adcDpX | adcLongIndDpY | adcAddrY | adcAddrX | adcLongX => exact ⟨_, rfl, (plain_addWithCarry s _ _).effect⟩
  | sbcIndDpX | sbcSr | sbcDp | sbcLongIndDp | sbcConst | sbcAddr | sbcLong | sbcIndDpY | sbcIndDp | sbcIndSrY
    | sbcDpX | sbcLongIndDpY | sbcAddrY | sbcAddrX | sbcLongX => exact ⟨_, rfl, (plain_subWithCarry s _ _).effect⟩
  | incAcc | incDp | incAddr | incDpX | incAddrX => exact ⟨_, rfl, (plain_increment s _ _).effect⟩
  | decAcc | decDp | decAddr | decDpX | decAddrX => exact ⟨_, rfl, (plain_decrement s _ _).effect⟩
  | dex | inx => exact ⟨_, rfl, (plain_replaceX s _).effect⟩
  | dey | iny => exact ⟨_, rfl, (plain_replaceY s _).effect⟩
  | andIndDpX | andSr | andDp | andLongIndDp | andConst | andAddr | andLong | andIndDpY | andIndDp | andIndSrY
    | andDpX | andLongIndDpY | andAddrY | andAddrX | andLongX => exact ⟨_, rfl, (plain_andAcc s _ _).effect⟩
  | oraIndDpX | oraSr | oraDp | oraLongIndDp | oraConst | oraAddr | oraLong | oraIndDpY | oraIndDp | oraIndSrY
    | oraDpX | oraLongIndDpY | oraAddrY | oraAddrX | oraLongX => exact ⟨_, rfl, (plain_orAcc s _ _).effect⟩
  | eorIndDpX | eorSr | eorDp | eorLongIndDp | eorConst | eorAddr | eorLong | eorIndDpY | eorIndDp | eorIndSrY
    | eorDpX | eorLongIndDpY | eorAddrY | eorAddrX | eorLongX => exact ⟨_, rfl, (plain_xorAcc s _ _).effect⟩
  | bitDp | bitAddr | bitDpX | bitAddrX => exact ⟨_, rfl, (plain_bitMemory s _ _).effect⟩
  | bitConst => exact ⟨_, rfl, (plain_bitConstant s _ _).effect⟩
  | cpyConst | cmpIndDpX | cmpSr | cpyDp | cmpDp | cmpLongIndDp | cmpConst | cpyAddr | cmpAddr | cmpLong | cmpIndDpY
    | cmpIndDp | cmpIndSrY | cmpDpX | cmpLongIndDpY | cmpAddrY | cmpAddrX | cmpLongX | cpxConst | cpxDp | cpxAddr =>
    exact ⟨_, rfl, (plain_compare s _ _ _).effect⟩
  | aslDp | aslAcc | aslAddr | aslDpX | aslAddrX | rolDp | rolAcc | rolAddr | rolDpX | rolAddrX | lsrDp | lsrAcc
    | lsrAddr | lsrDpX | lsrAddrX | rorDp | rorAcc | rorAddr | rorDpX | rorAddrX =>
    exact ⟨_, rfl, (plain_shiftTarget s _ _ _).effect⟩
  | bpl | bmi | bvc | bvs | bra | bcc | bcs | bne | beq => exact ⟨_, rfl, (plain_branchIf s _ _).effect⟩
  | jmpAddr | jmpIndAddr | jmpIndAddrX | brl => exact ⟨_, rfl, (plain_jump s _).effect⟩
  | jsrAddr => exact ⟨_, rfl, ((plain_pushReturn s 3).trans (plain_jump _ _)).effect⟩
  | jsrIndAddrX => exact ⟨_, rfl, (plain_callFree s 3 _).effect⟩
  | rts => exact ⟨_, rfl, ((plain_pull16 s).trans (plain_jump _ _)).effect⟩
  | tsc | tdc | txa | tya => exact ⟨_, rfl, (plain_transferAcc s _ _).effect⟩
  | tax | tsx => exact ⟨_, rfl, (plain_transferX s _).effect⟩
  | tay => exact ⟨_, rfl, (plain_transferY s _).effect⟩
  | txy => exact ⟨_, rfl, ((plain_copyXToY s).showNZ _ 1).effect⟩
  | tyx => exact ⟨_, rfl, ((plain_copyYToX s).showNZ _ 1).effect⟩
  | tcs | txs => exact ⟨_, rfl, ((plain_setStackPointer s _).trans (plain_advance _ 1)).effect⟩
  | xba => exact ⟨_, rfl, ((plain_setC s _).showNZ _ 1).effect⟩
  | clc | sec => exact ⟨_, rfl, ((plain_setFlag s .c _ (.inl rfl)).trans (plain_advance _ 1)).effect⟩
  | clv => exact ⟨_, rfl, ((plain_setFlag s .v _ (.inr rfl)).trans (plain_advance _ 1)).effect⟩
  | nop | wdm => exact ⟨_, rfl, (plain_advance s _).effect⟩
  | phd | per | pei | pea => exact ⟨_, rfl, (plain_pushWide s _ _).effect⟩
  | pha | phy | phx => exact ⟨_, rfl, (plain_pushAtWidth s _ _).effect⟩
  | php | phk | phb => exact ⟨_, rfl, ((plain_push8 s _).trans (plain_advance _ 1)).effect⟩
  | pla => exact ⟨_, rfl, ((plain_pullAcc s _).showNZ _ 1).effect⟩
  | plx => exact ⟨_, rfl, ((plain_pullX s).showNZ _ 1).effect⟩
  | ply => exact ⟨_, rfl, ((plain_pullY s).showNZ _ 1).effect⟩
  | sed | cld => exact ⟨_, rfl, (effect_setDecimal (by simp [WritesDecimal]) s _).andThen (plain_advance _ 1)⟩
  | sei | cli => exact ⟨_, rfl, (effect_setIrqMask (by simp [WritesIrqMask]) s _).andThen (plain_advance _ 1)⟩
  | rep | sep => exact ⟨_, rfl, (effect_writeP (by simp [WritesStatus]) s _).andThen (plain_advance _ 2)⟩
  | plp => exact ⟨_, rfl, ((plain_pull8 s).andThen (effect_writeP (.inl rfl) _ _)).andThen (plain_advance _ 1)⟩
  | xce => exact ⟨_, rfl, (effect_xce s).andThen (plain_advance _ 1)⟩
  | tcd => exact ⟨_, rfl, ((effect_setD (.inl rfl) s _).andThen (plain_setNZ _ _)).andThen (plain_advance _ 1)⟩
  | pld => exact ⟨_, rfl, (effect_pld s _).andThen (plain_advance _ 1)⟩
  | plb => exact ⟨_, rfl, (effect_plb s _).andThen (plain_advance _ 1)⟩
  | mvn | mvp => exact ⟨_, rfl, effect_blockMove (by simp [WritesDataBank]) s _ _ _⟩
  | jmpLong | jmpLongIndAddr => exact ⟨_, rfl, effect_jumpLong (by simp [WritesProgramBank]) s _⟩
  | jsl => exact ⟨_, rfl, effect_jsl s _⟩
  | rtl => exact ⟨_, rfl, effect_rtl s _ _⟩
  | rti => exact ⟨_, rfl, effect_rti s⟩
  | brk | cop => exact ⟨_, rfl, effect_takeTrap (by simp [WritesProgramBank]) (by simp [EntersTrap]) s _ _⟩
  | wai | stp => exact ⟨_, rfl, effect_setRun (by simp [WritesRunState]) s _ _⟩

theorem effect_of_exec {i : Instr} {s t : State} (h : exec i s = .next t) : Effect i s t := by
  obtain ⟨u, hu, he⟩ := exec_effect i s
  obtain rfl := Host.Outcome.next.inj (hu.symm.trans h)
  exact he

/-! ### Every step -/

theorem keeps_beginStep (s : State) : s.Keeps s.beginStep := .of_same rfl rfl rfl rfl rfl rfl id

theorem keeps_setRun (s : State) (r : RunState) : s.Keeps { s with run := r } := .of_same rfl rfl rfl rfl rfl rfl id

theorem keeps_setNmiPending (s : State) (b : Bool) : s.Keeps { s with nmiPending := b } :=
  .of_same rfl rfl rfl rfl rfl rfl id

theorem keeps_takeInterrupt (s : State) (k : TrapCause) : s.Keeps (s.takeInterrupt k) :=
  (keeps_setRun s .running).trans (keeps_takeTrap _ k _)

/-- The reset sequence makes the invariant true, but for memory's form, which it does not touch (R380). -/
theorem inv_resetSequence {s : State} (h : s.mem.wf = true) : s.resetSequence.Inv := by
  have hflag (f : Flag) : s.resetSequence.flag f =
      flagOf (withFlag (withFlag (withFlag (withFlag s.p .m true) .x true) .d false) .i true) f := rfl
  refine ⟨fun _ => ?_, fun _ => hi_joinWord _ _, fun _ => ⟨hi_zext16 _, hi_zext16 _⟩, h⟩
  simp [hflag, flagOf_withFlag]

/-! ### The obligations -/

/-- Settles O58, by the six ways a step reaches a next state (R7, R344); the running one is `exec_effect`. -/
theorem stepKeepsInvariant : Obligations.StepKeepsInvariant := by
  unfold Obligations.StepKeepsInvariant
  intro s t hs hstep
  have hbegin : s.beginStep.Inv := (keeps_beginStep s).inv hs
  obtain ⟨-, rfl⟩ | ⟨-, -, rfl⟩ | ⟨-, -, -, rfl⟩ | ⟨-, -, -, -, rfl⟩ | ⟨-, -, -, rfl⟩ | ⟨-, -, -, hexec⟩ :=
    step_cases hstep
  · exact inv_resetSequence hbegin.canonicalMemory
  · exact hbegin
  · exact ((keeps_setNmiPending _ false).trans (keeps_takeInterrupt _ .nmi)).inv hbegin
  · exact (keeps_takeInterrupt _ .irq).inv hbegin
  · split
    · exact (keeps_setRun _ .running).inv hbegin
    · exact hbegin
  · exact (effect_of_exec hexec).inv hbegin

/-- Settles O59: the writers of each register, read off what the instruction did to the control part. -/
theorem controlRegisterWriters : Obligations.ControlRegisterWriters := by
  unfold Obligations.ControlRegisterWriters
  intro i s t h
  have hw := (effect_of_exec h).control
  exact ⟨hw.e_or, hw.d_or, hw.dbr_or, hw.pbr_or, hw.run_or, hw.surroundings⟩

/-- Settles O60: the writers of each flag, read off likewise. -/
theorem widthAndMaskFlagWriters : Obligations.WidthAndMaskFlagWriters := by
  unfold Obligations.WidthAndMaskFlagWriters
  intro i s t h whole trap
  have hw := (effect_of_exec h).control
  exact ⟨hw.narrowAcc_or, hw.narrowIndex_or, hw.decimal_or, hw.irqMask_or⟩

/-- Settles O7: every register and flag that R40 fixes, evaluated; PC is the word at the reset vector of a memory that
nothing has written. -/
theorem resetStateValues : Obligations.ResetStateValues := by
  unfold Obligations.ResetStateValues
  have hpc : State.reset.pc =
      joinWord (State.reset.readByte .vector 0x00FFFD#24) (State.reset.readByte .vector 0x00FFFC#24) := by decide
  exact ⟨rfl, rfl, rfl, rfl, rfl, by decide, by decide, by decide, rfl, rfl, rfl, hpc, rfl, rfl⟩

/-- Settles O57. -/
theorem invariantAtReset : Obligations.InvariantAtReset where
  emulationWidths _ := ⟨rfl, rfl⟩
  emulationStack _ := by decide
  narrowIndexes _ := by decide
  canonicalMemory := reset_memory_wf

end Sys2Proof.Proofs
end

section
/-! Memory: what a write changes for every later read and fetch, and that the canonical form names each content of the
2^24 locations once. -/

namespace Sys2Proof.Proofs

open Machine

/-! ### A write and the next fetch -/

@[simp] theorem writeByte_fetchAddr (s : State) (a : Addr) (v : Byte) (k : Nat) :
    (s.writeByte a v).fetchAddr k = s.fetchAddr k := rfl

/-- Self-modifying code needs nothing done in between (R75): the fetch reads the byte just written. -/
theorem fetchByte_writeByte_same (s : State) (v : Byte) (k : Nat) (h : s.kindAt (s.fetchAddr k) = .ram) :
    (s.writeByte (s.fetchAddr k) v).fetchByte k = v := by
  rw [State.fetchByte, writeByte_fetchAddr, readByte_writeByte_same _ _ _ _ h]

/-! ### The canonical form of a list of cells -/

theorem cellsWf_cons {n k : Nat} {b : Byte} {rest : List Host.Cell} :
    cellsWf n ((k, b) :: rest) = true ↔
      n ≤ k ∧ k < 2 ^ 24 ∧ b ≠ Config.unwrittenByte ∧ cellsWf (k + 1) rest = true := by
  simp [cellsWf, and_assoc]

theorem cellsRead_head (k : Nat) (b : Byte) (rest : List Host.Cell) : cellsRead ((k, b) :: rest) k = b :=
  if_pos rfl

theorem cellsRead_tail {k a : Nat} (h : k ≠ a) (b : Byte) (rest : List Host.Cell) :
    cellsRead ((k, b) :: rest) a = cellsRead rest a :=
  if_neg h

/-- Nothing is listed below the address that a canonical list starts from. -/
theorem cellsRead_below {n a : Nat} {l : List Host.Cell} (h : cellsWf n l = true) (ha : a < n) :
    cellsRead l a = Config.unwrittenByte := by
  induction l generalizing n with
  | nil => rfl
  | cons c rest ih =>
    obtain ⟨k, b⟩ := c
    obtain ⟨hnk, -, -, hrest⟩ := cellsWf_cons.mp h
    rw [cellsRead_tail (by omega), ih hrest (by omega)]

/-- The first address of a canonical list is the least one that reads as written, so a list that reads alike starts no
later. -/
theorem head_le_of_reads {n m j k : Nat} {b c : Byte} {l r : List Host.Cell} (hl : cellsWf n ((k, b) :: l) = true)
    (hr : cellsWf m ((j, c) :: r) = true)
    (hread : ∀ a < 2 ^ 24, cellsRead ((k, b) :: l) a = cellsRead ((j, c) :: r) a) : j ≤ k := by
  obtain ⟨-, hk, hb, -⟩ := cellsWf_cons.mp hl
  obtain ⟨-, hj, hc, hrest⟩ := cellsWf_cons.mp hr
  by_contra hlt
  have hfrom : cellsWf j ((j, c) :: r) = true := cellsWf_cons.mpr ⟨le_rfl, hj, hc, hrest⟩
  have hunwritten : b = Config.unwrittenByte := by
    rw [← cellsRead_head k b l, hread k hk, cellsRead_below hfrom (by omega)]
  exact hb hunwritten

/-- A canonical list lists no unwritten byte, so it is empty when every address reads as unwritten. -/
theorem cells_eq_nil_of_reads {n : Nat} {l : List Host.Cell} (hl : cellsWf n l = true)
    (hread : ∀ a < 2 ^ 24, cellsRead l a = Config.unwrittenByte) : l = [] := by
  cases l with
  | nil => rfl
  | cons d l =>
    obtain ⟨k, b⟩ := d
    obtain ⟨-, hk, hb, -⟩ := cellsWf_cons.mp hl
    have hunwritten : b = Config.unwrittenByte := by rw [← cellsRead_head k b l, hread k hk]
    exact absurd hunwritten hb

/-- Canonical lists that read alike at the 2^24 addresses are the same list: they start at the same cell, and behind it
they read alike again. -/
theorem cells_eq_of_reads {n : Nat} {l r : List Host.Cell} (hl : cellsWf n l = true) (hr : cellsWf n r = true)
    (hread : ∀ a < 2 ^ 24, cellsRead l a = cellsRead r a) : l = r := by
  induction l generalizing n r with
  | nil => exact (cells_eq_nil_of_reads hr fun a ha => (hread a ha).symm).symm
  | cons d l ih =>
    obtain ⟨k, b⟩ := d
    obtain ⟨-, hk, -, hl'⟩ := cellsWf_cons.mp hl
    cases r with
    | nil => exact cells_eq_nil_of_reads hl hread
    | cons f r =>
      obtain ⟨j, c⟩ := f
      obtain rfl : k = j :=
        le_antisymm (head_le_of_reads hr hl fun a ha => (hread a ha).symm) (head_le_of_reads hl hr hread)
      obtain rfl : b = c := by rw [← cellsRead_head k b l, hread k hk, cellsRead_head]
      obtain ⟨-, -, -, hr'⟩ := cellsWf_cons.mp hr
      have hrest : ∀ a < 2 ^ 24, cellsRead l a = cellsRead r a := fun a ha => by
        by_cases hka : k = a
        · rw [cellsRead_below hl' (by omega), cellsRead_below hr' (by omega)]
        · rw [← cellsRead_tail hka b l, hread a ha, cellsRead_tail hka]
      rw [ih hl' hr' hrest]

theorem memory_eq_of_reads {m n : Memory} (hm : m.wf = true) (hn : n.wf = true)
    (hread : ∀ a : Addr, m.read a.toNat = n.read a.toNat) : m = n := by
  have hcells : m.cells = n.cells := cells_eq_of_reads hm hn fun a ha => by
    have h := hread (BitVec.ofNat 24 a)
    rwa [BitVec.toNat_ofNat, Nat.mod_eq_of_lt ha] at h
  exact congrArg Memory.mk hcells

/-! ### The obligations -/

/-- Settles O16, by the laws of a read after a write; the unchanged read of the third clause is of another address, or
of the written one when that is not RAM. -/
theorem memoryReadsLastWrite : Obligations.MemoryReadsLastWrite := by
  unfold Obligations.MemoryReadsLastWrite
  intro s a v
  refine ⟨rfl, fun hram use => readByte_writeByte_same s use a v hram, fun b hb use => ?_, ?_⟩
  · by_cases hab : a = b
    · subst hab
      exact readByte_writeByte_not_ram s use a a v (hb.resolve_left (not_not_intro rfl))
    · exact readByte_writeByte_ne s use a b v hab
  · rintro k hram rfl
    exact fetchByte_writeByte_same s v k hram

/-- Settles O18: a write keeps the form, and in it the reads determine the list. -/
theorem canonicalMemoryIsExtensional : Obligations.CanonicalMemoryIsExtensional := by
  unfold Obligations.CanonicalMemoryIsExtensional
  exact ⟨fun _ a v hm => Memory.write_wf hm a.toNat a.isLt v, fun _ _ => memory_eq_of_reads⟩

end Sys2Proof.Proofs
end

section
/-! The encoder and the decoder are inverse to each other. Each format's operand bytes and the field read from them
determine one another (R97, R98); with that, a constructor's encoding is decoded by its format, and an opcode's
instruction is encoded by its row of the table. -/

namespace Sys2Proof.Proofs

open Machine

/-! ### Operand bytes and the fields read from them -/

@[simp] theorem wordBytes_joinWord (b2 b1 : Byte) : wordBytes (joinWord b2 b1) = [b1, b2] := by
  simp [wordBytes]

@[simp] theorem longBytes_bankAddr (b3 b2 b1 : Byte) : longBytes (bankAddr b3 (joinWord b2 b1)) = [b1, b2, b3] := by
  simp [longBytes]

/-- A constant read at a width is written back at that width (R98). -/
@[simp] theorem constBytes_constField (narrow : Bool) (b2 b1 : Byte) :
    constBytes narrow (constField narrow b2 b1) = if narrow then [b1] else [b1, b2] := by
  cases narrow <;> simp [constBytes, constField]

/-- How many operand bytes a constant of variable size takes (R92). -/
@[simp] theorem take_constLength (narrow : Bool) (b1 b2 b3 : Byte) :
    [b1, b2, b3].take ((if narrow then 2 else 3) - 1) = if narrow then [b1] else [b1, b2] := by
  cases narrow <;> rfl

theorem constFits_true_iff {v : Word} : constFits true v = true ↔ hi v = 0x00#8 := by simp [constFits]

/-! ### The decoder on an opcode and the bytes after it -/

/-- The instruction that an opcode byte starts, bytes past the end read as zero. -/
def firstInstr (m x : Bool) (b0 : Byte) (tail : List Byte) : Instr :=
  decodeBytes m x b0 (tail.getD 0 0x00#8) (tail.getD 1 0x00#8) (tail.getD 2 0x00#8)

/-- What the decoder answers: the instruction of the opcode, when all its bytes are there, and the bytes past it. -/
theorem decode_cons_eq_ok {m x : Bool} {b0 : Byte} {tail rest : List Byte} {i : Instr} :
    decode m x (b0 :: tail) = .ok (i, rest) ↔
      firstInstr m x b0 tail = i ∧ i.length m x - 1 ≤ tail.length ∧ tail.drop (i.length m x - 1) = rest := by
  have hdecode : decode m x (b0 :: tail) =
      if tail.length < (firstInstr m x b0 tail).length m x - 1 then .error (.truncated b0)
      else .ok (firstInstr m x b0 tail, tail.drop ((firstInstr m x b0 tail).length m x - 1)) := rfl
  rw [hdecode]
  split
  case isTrue hshort =>
    refine ⟨nofun, ?_⟩
    rintro ⟨rfl, hlong, -⟩
    exact absurd hshort (Nat.not_lt.mpr hlong)
  case isFalse hlong =>
    constructor
    · intro h
      obtain ⟨rfl, rfl⟩ := Prod.mk.inj (Except.ok.inj h)
      exact ⟨rfl, Nat.not_lt.mp hlong, rfl⟩
    · rintro ⟨rfl, -, rfl⟩
      rfl

/-! ### From the instruction to the bytes and back, by the shape of the operand -/

section
variable {m x : Bool} {b0 : Byte} {rest : List Byte}

/-- When the opcode and the bytes after it stand for an instruction that takes as many bytes as the operand has, the
decoder reads it and leaves the rest (R92). -/
theorem decode_append {i : Instr} (operand : List Byte) (hread : firstInstr m x b0 (operand ++ rest) = i)
    (hlen : i.length m x = operand.length + 1) : decode m x (b0 :: operand ++ rest) = .ok (i, rest) :=
  decode_cons_eq_ok.mpr ⟨hread, by simp [hlen], by simp [hlen]⟩

theorem decode_noOperand {i : Instr} (hread : ∀ b1 b2 b3, decodeBytes m x b0 b1 b2 b3 = i)
    (hlen : i.length m x = 1) : decode m x ([b0] ++ rest) = .ok (i, rest) :=
  decode_append [] (hread _ _ _) hlen

theorem decode_byteOperand {i : Instr} {v : Byte} (hread : ∀ b2 b3, decodeBytes m x b0 v b2 b3 = i)
    (hlen : i.length m x = 2) : decode m x ([b0, v] ++ rest) = .ok (i, rest) :=
  decode_append [v] (hread _ _) hlen

theorem decode_bankOperands {i : Instr} {v w : Byte} (hread : ∀ b3, decodeBytes m x b0 v w b3 = i)
    (hlen : i.length m x = 3) : decode m x ([b0, v, w] ++ rest) = .ok (i, rest) :=
  decode_append [v, w] (hread _) hlen

theorem decode_wordOperand {f : Word → Instr} {v : Word}
    (hread : ∀ b1 b2 b3, decodeBytes m x b0 b1 b2 b3 = f (joinWord b2 b1)) (hlen : (f v).length m x = 3) :
    decode m x (b0 :: wordBytes v ++ rest) = .ok (f v, rest) :=
  decode_append (wordBytes v) (by simp [firstInstr, hread, wordBytes]) hlen

theorem decode_longOperand {f : Addr → Instr} {v : Addr}
    (hread : ∀ b1 b2 b3, decodeBytes m x b0 b1 b2 b3 = f (bankAddr b3 (joinWord b2 b1)))
    (hlen : (f v).length m x = 4) : decode m x (b0 :: longBytes v ++ rest) = .ok (f v, rest) :=
  decode_append (longBytes v) (by simp [firstInstr, hread, longBytes]) hlen

/-- The one format where well-formedness matters: a narrow constant is written without its high byte, and read back with
a zero one (R98). -/
theorem decode_constOperand {f : Word → Instr} {v : Word} {narrow : Bool} (hfits : constFits narrow v = true)
    (hread : ∀ b1 b2 b3, decodeBytes m x b0 b1 b2 b3 = f (constField narrow b2 b1))
    (hlen : (f v).length m x = if narrow then 2 else 3) :
    decode m x (b0 :: constBytes narrow v ++ rest) = .ok (f v, rest) := by
  cases narrow with
  | false => exact decode_append (wordBytes v) (by simp [firstInstr, hread, constField, wordBytes]) hlen
  | true =>
    have hzero : hi v = 0x00#8 := constFits_true_iff.mp hfits
    exact decode_append [lo v] (by simp [firstInstr, hread, constField, zext16_lo_of_hi_zero hzero]) hlen

end

/-- Each opcode selects one instruction (R90); the shape of its operand does the rest. -/
theorem decode_encode {m x : Bool} {i : Instr} (hwf : i.wellFormed m x = true) (rest : List Byte) :
    decode m x (encode m x i ++ rest) = .ok (i, rest) := by
  cases i with
  | php | aslAcc | phd | clc | incAcc | tcs | plp | rolAcc | pld | sec | decAcc | tsc | rti | pha | lsrAcc | phk | cli
    | phy | tcd | rts | pla | rorAcc | rtl | sei | ply | tdc | dey | txa | phb | tya | txs | txy | tay | tax | plb | clv
    | tsx | tyx | iny | dex | wai | cld | phx | stp | inx | nop | xba | sed | plx | xce =>
    exact decode_noOperand (fun _ _ _ => rfl) rfl
  | mvp | mvn => exact decode_bankOperands (fun _ => rfl) rfl
  | tsbAddr | oraAddr | aslAddr | oraAddrY | trbAddr | oraAddrX | aslAddrX | jsrAddr | bitAddr | andAddr | rolAddr
    | andAddrY | bitAddrX | andAddrX | rolAddrX | jmpAddr | eorAddr | lsrAddr | eorAddrY | eorAddrX | lsrAddrX | per
    | jmpIndAddr | adcAddr | rorAddr | adcAddrY | jmpIndAddrX | adcAddrX | rorAddrX | brl | styAddr | staAddr | stxAddr
    | staAddrY | stzAddr | staAddrX | stzAddrX | ldyAddr | ldaAddr | ldxAddr | ldaAddrY | ldyAddrX | ldaAddrX | ldxAddrY
    | cpyAddr | cmpAddr | decAddr | cmpAddrY | jmpLongIndAddr | cmpAddrX | decAddrX | cpxAddr | sbcAddr | incAddr | pea
    | sbcAddrY | jsrIndAddrX | sbcAddrX | incAddrX =>
    exact decode_wordOperand (fun _ _ _ => rfl) rfl
  | oraLong | oraLongX | jsl | andLong | andLongX | eorLong | jmpLong | eorLongX | adcLong | adcLongX | staLong
    | staLongX | ldaLong | ldaLongX | cmpLong | cmpLongX | sbcLong | sbcLongX =>
    exact decode_longOperand (fun _ _ _ => rfl) rfl
  | oraConst | andConst | eorConst | adcConst | bitConst | ldaConst | cmpConst | sbcConst | ldyConst | ldxConst
    | cpyConst | cpxConst =>
    exact decode_constOperand hwf (fun _ _ _ => rfl) rfl
  | _ => exact decode_byteOperand (fun _ _ => rfl) rfl

/-! ### From the bytes to the instruction and back, by the rows of the opcode table -/

/-- The operand bytes that a format writes when its fields hold what was read from `b1`, `b2`, `b3` (R91, R97). -/
def rewrittenOperand (m x : Bool) (b1 b2 b3 : Byte) : Form → List Byte
  | .implied | .acc => []
  | .imm8 | .dp | .dpX | .dpY | .indDp | .indDpX | .indDpY | .longIndDp | .longIndDpY | .sr | .indSrY | .near => [b1]
  | .srcDest => [b1, b2]
  | .immM => constBytes m (constField m b2 b1)
  | .immX => constBytes x (constField x b2 b1)
  | .imm16 | .addr | .addrX | .addrY | .indAddr | .indAddrX | .longIndAddr | .jumpAddr | .rel16 =>
    wordBytes (joinWord b2 b1)
  | .long | .longX | .jumpLong => longBytes (bankAddr b3 (joinWord b2 b1))

/-- Read and written again, the operand bytes are the same, as many as the format has (R92). -/
theorem rewrittenOperand_eq (m x : Bool) (b1 b2 b3 : Byte) (f : Form) :
    rewrittenOperand m x b1 b2 b3 f = [b1, b2, b3].take (f.length m x - 1) := by
  cases f <;> simp [rewrittenOperand, Form.length]

/-- Each place of the opcode table, by row and column, has one format; for the instruction there the encoder writes the
opcode of the place and the fields of the format, whatever was read into them (R90, R102). -/
theorem decodeBytes_format (m x : Bool) (b0 : Byte) :
    ∃ f : Form, ∀ b1 b2 b3, (decodeBytes m x b0 b1 b2 b3).form = f ∧
      encode m x (decodeBytes m x b0 b1 b2 b3) =
        BitVec.ofNat 8 (16 * (b0.toNat / 16) + b0.toNat % 16) :: rewrittenOperand m x b1 b2 b3 f := by
  have hrow : b0.toNat / 16 < 16 := by omega
  have hcolumn : b0.toNat % 16 < 16 := by omega
  unfold decodeBytes
  dsimp only
  generalize b0.toNat / 16 = row at hrow
  generalize b0.toNat % 16 = column at hcolumn
  interval_cases row <;> interval_cases column <;> exact ⟨_, fun _ _ _ => ⟨rfl, rfl⟩⟩

/-- The opcode alone selects the format (R90). -/
theorem decodeBytes_form (m x : Bool) (b0 b1 b2 b3 : Byte) :
    (decodeBytes m x b0 b1 b2 b3).form = (decodeBytes m x b0 0x00#8 0x00#8 0x00#8).form := by
  obtain ⟨f, hf⟩ := decodeBytes_format m x b0
  rw [(hf b1 b2 b3).1, (hf 0x00#8 0x00#8 0x00#8).1]

theorem encode_decodeBytes (m x : Bool) (b0 b1 b2 b3 : Byte) :
    encode m x (decodeBytes m x b0 b1 b2 b3) =
      b0 :: [b1, b2, b3].take ((decodeBytes m x b0 b1 b2 b3).length m x - 1) := by
  have hopcode : BitVec.ofNat 8 (16 * (b0.toNat / 16) + b0.toNat % 16) = b0 := by
    rw [Nat.div_add_mod, BitVec.ofNat_toNat, BitVec.setWidth_eq]
  obtain ⟨f, hf⟩ := decodeBytes_format m x b0
  obtain ⟨hform, hbytes⟩ := hf b1 b2 b3
  rw [hbytes, hopcode, rewrittenOperand_eq, ← hform, Instr.length]

/-- Of the three bytes that the decoder looks at, those the length takes are bytes that are there. -/
theorem take_getD_zero {n : Nat} {tail : List Byte} (hn : n ≤ 3) (htail : n ≤ tail.length) :
    [tail.getD 0 0x00#8, tail.getD 1 0x00#8, tail.getD 2 0x00#8].take n = tail.take n := by
  match tail, n, hn with
  | _, 0, _ => simp
  | [], n + 1, _ => simp at htail
  | [_], n + 2, _ => simp at htail
  | _ :: _, 1, _ => simp
  | _ :: _ :: _, 2, _ => simp
  | [_, _], 3, _ => simp at htail
  | _ :: _ :: _ :: _, 3, _ => simp

/-- No instruction has more than three operand bytes (R92). -/
theorem firstInstr_operand_le_three (m x : Bool) (b0 : Byte) (tail : List Byte) :
    (firstInstr m x b0 tail).length m x - 1 ≤ 3 :=
  Nat.sub_le_of_le_add (form_length_le_four m x _)

theorem encode_firstInstr (m x : Bool) (b0 : Byte) {tail : List Byte}
    (htail : (firstInstr m x b0 tail).length m x - 1 ≤ tail.length) :
    encode m x (firstInstr m x b0 tail) = b0 :: tail.take ((firstInstr m x b0 tail).length m x - 1) := by
  rw [← take_getD_zero (firstInstr_operand_le_three m x b0 tail) htail]
  exact encode_decodeBytes m x b0 _ _ _

/-- What is read encodes to the bytes taken, and the bytes past them are the rest. -/
theorem encode_of_decode {m x : Bool} {bytes rest : List Byte} {i : Instr} (h : decode m x bytes = .ok (i, rest)) :
    encode m x i ++ rest = bytes := by
  cases bytes with
  | nil => cases h
  | cons b0 tail =>
    obtain ⟨rfl, htail, rfl⟩ := decode_cons_eq_ok.mp h
    rw [encode_firstInstr m x b0 htail, List.cons_append, List.take_append_drop]

theorem wellFormed_of_decode {m x : Bool} {bytes rest : List Byte} {i : Instr}
    (h : decode m x bytes = .ok (i, rest)) : i.wellFormed m x = true := by
  cases bytes with
  | nil => cases h
  | cons b0 tail =>
    obtain ⟨rfl, -, -⟩ := decode_cons_eq_ok.mp h
    exact decodeBytes_wellFormed m x b0 _ _ _

/-- Four bytes suffice, because no format is longer (R92) and no opcode is illegal (R104). -/
theorem decode_of_four_le (m x : Bool) {bytes : List Byte} (hfour : 4 ≤ bytes.length) :
    ∃ i rest, decode m x bytes = .ok (i, rest) := by
  cases bytes with
  | nil => simp at hfour
  | cons b0 tail =>
    have hthree : 3 ≤ tail.length := Nat.le_of_succ_le_succ hfour
    exact ⟨_, _, decode_cons_eq_ok.mpr ⟨rfl, (firstInstr_operand_le_three m x b0 tail).trans hthree, rfl⟩⟩

/-! ### The obligations -/

/-- Settles O1. -/
theorem decodeOfEncode : Obligations.DecodeOfEncode := by
  unfold Obligations.DecodeOfEncode
  exact fun _ _ _ rest hwf => decode_encode hwf rest

/-- Settles O2. -/
theorem encodeOfDecode : Obligations.EncodeOfDecode := by
  unfold Obligations.EncodeOfDecode
  exact ⟨fun _ _ _ _ _ h => ⟨wellFormed_of_decode h, encode_of_decode h⟩, fun m x _ => decode_of_four_le m x⟩

/-- Settles O3. The counts and the two lists are evaluated over the 256 opcodes; that the operand bytes do not matter is
`decodeBytes_form`. -/
theorem opcodesByLength : Obligations.OpcodesByLength := by
  unfold Obligations.OpcodesByLength
  simp only [List.countP_eq_length_filter]
  refine ⟨rfl, rfl, rfl, rfl, by decide, by decide, fun m x b0 b1 b2 b3 => ?_⟩
  exact congrArg (Form.length m x) (decodeBytes_form m x b0 b1 b2 b3)

/-- Settles O4: the nine closed words, evaluated. -/
theorem specWordsDecode : Obligations.SpecWordsDecode := by
  unfold Obligations.SpecWordsDecode
  decide

/-- Settles O55: the case analysis over all instructions stands in `exec_effect`, whose next state this is. -/
theorem everyInstructionCompletes : Obligations.EveryInstructionCompletes := by
  unfold Obligations.EveryInstructionCompletes
  intro i s
  obtain ⟨t, hexec, -⟩ := exec_effect i s
  exact ⟨t, hexec⟩

end Sys2Proof.Proofs
end

section
/-! Where an operand stands (40_addressing.md): each step of an address computation as a number, and the two bytes of a
16-bit access. -/

namespace Sys2Proof.Proofs

open Machine Claims

/-! ### The two bytes of an access (R66, R67, R121) -/

theorem toNat_second_lin (ea : Addr) : (Loc.second { ea := ea, kind := .lin }).toNat = (ea.toNat + 1) % 2 ^ 24 :=
  BitVec.toNat_add ea 1#24

theorem toNat_second_bank0 (ea : Addr) :
    (Loc.second { ea := ea, kind := .bank0 }).toNat = (ea.toNat % 65536 + 1) % 65536 := by
  have hoffset : (addrOffset ea + 1#16).toNat = (ea.toNat % 65536 + 1) % 65536 := by
    rw [BitVec.toNat_add, toNat_addrOffset]
    rfl
  rw [← hoffset]
  exact toNat_bank0 _

theorem toNat_readOp_w16 (s : State) (l : Loc) :
    (s.readOp l .w16).toNat = (s.readByte .data l.ea).toNat + 256 * (s.readByte .data l.second).toNat := by
  have hjoin := toNat_joinWord (s.readByte .data l.second) (s.readByte .data l.ea)
  exact hjoin.trans (by omega)

/-- A byte at the location is stored whole. -/
theorem stored_writeByte (s : State) (l : Loc) (v : Byte) : Stored s (s.writeByte l.ea v) l .w8 v := by
  refine ⟨fun hram use => ?_, nofun, fun a ha _ use => readByte_writeByte_ne s use l.ea a v ha.symm⟩
  rw [readByte_writeByte_same s use l.ea v hram, Nat.mod_eq_of_lt v.isLt]

/-- A word stored by its two bytes, in either order: the addresses differ, so neither write undoes the other. -/
theorem stored_w16_of_reads {s t : State} {l : Loc} {v : Word}
    (hlow : s.kindAt l.ea = .ram → ∀ use, t.readByte use l.ea = lo v)
    (hhigh : s.kindAt l.second = .ram → ∀ use, t.readByte use l.second = hi v)
    (hkept : ∀ a, a ≠ l.ea → a ≠ l.second → ∀ use, t.readByte use a = s.readByte use a) : Stored s t l .w16 v :=
  ⟨fun hram use => by rw [hlow hram use, toNat_lo], fun _ hram use => by rw [hhigh hram use, toNat_hi],
    fun a hea hsecond use => hkept a hea (hsecond rfl) use⟩

/-- A plain store, low byte first (R68). -/
theorem stored_writeOp (s : State) (l : Loc) (w : Width) (v : BitVec w.bits) : Stored s (s.writeOp l w v) l w v := by
  cases w with
  | w8 => exact stored_writeByte s l v
  | w16 =>
    have hne : l.ea ≠ l.second := (loc_second_ne l).symm
    refine stored_w16_of_reads (fun hram use => ?_) (fun hram use => ?_) (fun a hea hsecond use => ?_) <;>
      simp [State.writeOp, readByte_writeByte, *]

/-- The store of a read-modify-write instruction, high byte first (R68). -/
theorem stored_writeBack (s : State) (l : Loc) (w : Width) (v : BitVec w.bits) :
    Stored s (s.writeBack l w v) l w v := by
  cases w with
  | w8 => exact stored_writeByte s l v
  | w16 =>
    have hne : l.second ≠ l.ea := loc_second_ne l
    refine stored_w16_of_reads (fun hram use => ?_) (fun hram use => ?_) (fun a hea hsecond use => ?_) <;>
      simp [State.writeBack, readByte_writeByte, *]

theorem writeOp_eq_with_mem (s : State) (l : Loc) (w : Width) (v : BitVec w.bits) :
    s.writeOp l w v = { s with mem := (s.writeOp l w v).mem } := by cases w <;> rfl

theorem writeBack_eq_with_mem (s : State) (l : Loc) (w : Width) (v : BitVec w.bits) :
    s.writeBack l w v = { s with mem := (s.writeBack l w v).mem } := by cases w <;> rfl

/-! ### The kind of each form (R121) -/

theorem loc_kind_eq_bank0_iff (f : MemForm) (s : State) : (f.loc s).kind = .bank0 ↔
    (∃ o, f = .dp o) ∨ (∃ o, f = .dpX o) ∨ (∃ o, f = .dpY o) ∨ (∃ o, f = .sr o) := by
  constructor
  · intro h
    cases f with
    | dp | dpX | dpY | sr => simp
    | _ => exact nomatch h
  · rintro (⟨o, rfl⟩ | ⟨o, rfl⟩ | ⟨o, rfl⟩ | ⟨o, rfl⟩) <;> rfl

theorem loc_ea_lt_of_bank0 {f : MemForm} {s : State} (h : (f.loc s).kind = .bank0) : (f.loc s).ea.toNat < 65536 := by
  have hbank : ∃ offset : Word, (f.loc s).ea = bank0 offset := by
    obtain ⟨o, rfl⟩ | ⟨o, rfl⟩ | ⟨o, rfl⟩ | ⟨o, rfl⟩ := (loc_kind_eq_bank0_iff f s).mp h <;> exact ⟨_, rfl⟩
  obtain ⟨offset, hea⟩ := hbank
  rw [hea, toNat_bank0]
  exact offset.isLt

/-! ### The steps of an address computation, as numbers -/

theorem toNat_add_zext16 (a : Word) (b : Byte) : (a + zext16 b).toNat = (a.toNat + b.toNat) % 65536 := by
  rw [BitVec.toNat_add, toNat_zext16]

theorem toNat_directOffset (s : State) (o : Byte) : (s.directOffset o).toNat = (s.d.toNat + o.toNat) % 65536 :=
  toNat_add_zext16 s.d o

theorem toNat_stackOffset (s : State) (o : Byte) : (s.stackOffset o).toNat = (s.sp.toNat + o.toNat) % 65536 :=
  toNat_add_zext16 s.sp o

theorem toNat_dataAddr (s : State) (a : Word) : (s.dataAddr a).toNat = 65536 * s.dbr.toNat + a.toNat := by
  rw [State.dataAddr, toNat_bankAddr, Nat.mul_comm]

theorem toNat_indexed (base : Addr) (index : Word) :
    (indexed base index).toNat = (base.toNat + index.toNat) % 2 ^ 24 := by
  rw [indexed, BitVec.toNat_add, BitVec.toNat_setWidth_of_le (by decide)]

/-! ### The page wrap of emulation mode (R126) -/

theorem pageWrap_iff (s : State) : s.pageWrap = true ↔ s.e = true ∧ s.d.toNat % 256 = 0 := by
  simp [State.pageWrap, ← BitVec.toNat_inj, toNat_lo]

theorem pageWrap_eq_false {s : State} (h : s.e = false ∨ s.d.toNat % 256 ≠ 0) : s.pageWrap = false := by
  rw [← Bool.not_eq_true, pageWrap_iff]
  rintro ⟨he, hd⟩
  exact h.elim (by simp [he]) (absurd hd)

/-- A byte of the direct page, where the page begins at D. -/
theorem toNat_joinWord_hi_d {s : State} (hd : s.d.toNat % 256 = 0) (b : Byte) :
    (joinWord (hi s.d) b).toNat = s.d.toNat + b.toNat := by
  rw [toNat_joinWord, toNat_hi]
  omega

theorem toNat_directIndexed {s : State} (h : s.pageWrap = false) (o : Byte) (index : Word) :
    (s.directIndexed o index).toNat = (s.d.toNat + o.toNat + index.toNat) % 65536 := by
  simp [State.directIndexed, h, toNat_zext16]

theorem toNat_directIndexed_page {s : State} (h : s.pageWrap = true) (o : Byte) (index : Word) :
    (s.directIndexed o index).toNat = s.d.toNat + (o.toNat + index.toNat) % 256 := by
  obtain ⟨-, hd⟩ := (pageWrap_iff s).mp h
  rw [State.directIndexed, if_pos h, toNat_joinWord_hi_d hd, BitVec.toNat_add, toNat_lo, Nat.add_mod_mod]

/-! ### Pointers (R67, R126 to R131) -/

/-- The byte of bank 0 that a pointer read sees at an offset, taken over 16 bits. -/
def pointerByte (s : State) (n : Nat) : Nat := (s.readByte .pointer (BitVec.ofNat 24 (n % 65536))).toNat

/-- The two-byte pointer at an offset of bank 0, low byte first. -/
def pointerWord (s : State) (n : Nat) : Nat := pointerByte s n + 256 * pointerByte s (n + 1)

/-- The two-byte pointer at an offset of the direct page, whose second byte wraps in the page (R126). -/
def pagePointerWord (s : State) (n : Nat) : Nat :=
  pointerByte s (s.d.toNat + n % 256) + 256 * pointerByte s (s.d.toNat + (n + 1) % 256)

/-- The three-byte pointer at an offset of bank 0: a word and its bank. -/
def pointerLong (s : State) (n : Nat) : Nat := pointerWord s n + 65536 * pointerByte s (n + 2)

section
variable (s : State) {a : Word} {n : Nat}

theorem toNat_readByte_bank0 (h : a.toNat = n % 65536) : (s.readByte .pointer (bank0 a)).toNat = pointerByte s n := by
  have haddr : bank0 a = BitVec.ofNat 24 (n % 65536) := by
    apply BitVec.eq_of_toNat_eq
    rw [toNat_bank0, h, BitVec.toNat_ofNat]
    omega
  rw [haddr, pointerByte]

/-- A later byte of a pointer, its offset wrapping in bank 0. -/
theorem toNat_readByte_bank0_add (h : a.toNat = n % 65536) (k : Nat) :
    (s.readByte .pointer (bank0 (a + BitVec.ofNat 16 k))).toNat = pointerByte s (n + k) :=
  toNat_readByte_bank0 s (by rw [BitVec.toNat_add, BitVec.toNat_ofNat, h, ← Nat.add_mod])

theorem toNat_readWord0 (h : a.toNat = n % 65536) : (s.readWord0 .pointer a).toNat = pointerWord s n := by
  rw [State.readWord0, toNat_joinWord, toNat_readByte_bank0 s h, toNat_readByte_bank0_add s h 1, pointerWord]
  omega

theorem toNat_readLong0 (h : a.toNat = n % 65536) : (s.readLong0 a).toNat = pointerLong s n := by
  rw [State.readLong0, toNat_bankAddr, toNat_readWord0 s h, toNat_readByte_bank0_add s h 2, pointerLong]
  omega

end

theorem toNat_directPointer {s : State} (h : s.pageWrap = false) {a : Word} {n : Nat} (ha : a.toNat = n % 65536) :
    (s.directPointer a).toNat = pointerWord s n := by
  rw [State.directPointer, if_neg (by simp [h]), toNat_readWord0 s ha]

/-- Only the place of the pointer in the page matters. -/
theorem toNat_directPointer_page {s : State} (h : s.pageWrap = true) {a : Word} {n : Nat}
    (ha : a.toNat % 256 = n % 256) : (s.directPointer a).toNat = pagePointerWord s n := by
  obtain ⟨-, hd⟩ := (pageWrap_iff s).mp h
  have hfirst : (joinWord (hi s.d) (lo a)).toNat = (s.d.toNat + n % 256) % 65536 := by
    rw [toNat_joinWord_hi_d hd, toNat_lo, ha]
    omega
  have hsecond : (joinWord (hi s.d) (lo a + 1#8)).toNat = (s.d.toNat + (n + 1) % 256) % 65536 := by
    rw [toNat_joinWord_hi_d hd, BitVec.toNat_add, toNat_lo, ha]
    simp
    omega
  rw [State.directPointer, if_pos h, toNat_joinWord, toNat_readByte_bank0 s hfirst, toNat_readByte_bank0 s hsecond,
    pagePointerWord]
  omega

/-! ### The obligations -/

/-- Settles O17: a word is its two bytes read or stored, the second at `Loc.second`; which step a form takes is read off
the case of the form. -/
theorem multiByteAccesses : Obligations.MultiByteAccesses := by
  unfold Obligations.MultiByteAccesses
  refine ⟨fun s l => ⟨rfl, toNat_readOp_w16 s l⟩, fun s l w v => ?_, toNat_second_lin, toNat_second_bank0,
    loc_kind_eq_bank0_iff, fun f s => loc_ea_lt_of_bank0⟩
  exact ⟨writeOp_eq_with_mem s l w v, stored_writeOp s l w v, writeBack_eq_with_mem s l w v, stored_writeBack s l w v⟩

/-- Settles O19: `dp` adds to D over 16 bits; an index is added likewise, or inside the page (R124 to R126). -/
theorem directPageAddresses : Obligations.DirectPageAddresses := by
  unfold Obligations.DirectPageAddresses
  intro s o
  refine ⟨?_, fun h => ?_, fun he hd => ?_⟩
  · rw [MemForm.loc, toNat_bank0, toNat_directOffset]
  · have hwrap := pageWrap_eq_false h
    simp only [MemForm.loc, toNat_bank0, toNat_directIndexed hwrap, and_self]
  · have hwrap := (pageWrap_iff s).mpr ⟨he, hd⟩
    simp only [MemForm.loc, toNat_bank0, toNat_directIndexed_page hwrap, and_self]

/-- Settles O20: the pointer of each form as a number, the page wrap apart; then the bank and the index. -/
theorem indirectAddresses : Obligations.IndirectAddresses := by
  unfold Obligations.IndirectAddresses
  intro s o
  have hdirect := toNat_directOffset s o
  refine ⟨fun h => ?_, fun he hd => ?_, ?_, ?_, ?_⟩
  · have hwrap := pageWrap_eq_false h
    have hpointer := toNat_directPointer hwrap hdirect
    have hpointerX := toNat_directPointer hwrap (toNat_directIndexed hwrap o s.x)
    simp only [MemForm.loc, toNat_indexed, toNat_dataAddr, hpointer, hpointerX]
    exact ⟨rfl, rfl, rfl⟩
  · have hwrap := (pageWrap_iff s).mpr ⟨he, hd⟩
    have hpointer := toNat_directPointer_page hwrap (n := o.toNat) (a := s.directOffset o) (by omega)
    have hindexed := toNat_directIndexed_page hwrap o s.x
    have hpointerX := toNat_directPointer_page hwrap (n := o.toNat + s.x.toNat) (a := s.directIndexed o s.x) (by omega)
    simp only [MemForm.loc, toNat_indexed, toNat_dataAddr, hpointer, hpointerX]
    exact ⟨rfl, rfl, rfl⟩
  · exact toNat_readLong0 s hdirect
  · rw [MemForm.loc, toNat_indexed, toNat_readLong0 s hdirect]
    rfl
  · rw [MemForm.loc, toNat_indexed, toNat_dataAddr, toNat_readWord0 s (toNat_stackOffset s o)]
    rfl

/-- Settles O21: the bank and the offset, then an index over 24 bits; the stack form over 16 bits (R132 to R136). -/
theorem absoluteAndStackAddresses : Obligations.AbsoluteAndStackAddresses := by
  unfold Obligations.AbsoluteAndStackAddresses
  intro s a l o
  have hindexed (index : Word) :
      (indexed (s.dataAddr a) index).toNat = (65536 * s.dbr.toNat + a.toNat + index.toNat) % 2 ^ 24 := by
    rw [toNat_indexed, toNat_dataAddr]
  exact ⟨toNat_dataAddr s a, hindexed s.x, hindexed s.y, rfl, toNat_indexed l s.x,
    (toNat_bank0 _).trans (toNat_stackOffset s o)⟩

end Sys2Proof.Proofs
end

section
/-! Loads and stores (41_load_store.md): what each word of the claims (`ShowsNZ`, `PastInstr`, `PutsInAcc`, …) says of the
state that the shared operation answers. Every form of an instruction then follows from one rule. -/

namespace Sys2Proof.Proofs

open Machine Claims

/-! ### The bytes of an instruction with a constant (R92, R98) -/

/-- A constant takes as many bytes as the width that its flag selects. -/
theorem length_constBytes (narrow : Bool) (k : Word) :
    (constBytes narrow k).length = Width.bits (if narrow then .w8 else .w16) / 8 := by
  cases narrow <;> simp [constBytes, wordBytes, Width.bits]

/-- An opcode and a constant at the width that a flag selects: m for LDA, x for LDX and LDY. -/
theorem hasOpcode_const {s : State} {i : Instr} {op : Byte} {k : Word} {narrow : Bool} {w : Width}
    (hbytes : encode (s.flag .m) (s.flag .x) i = op :: constBytes narrow k)
    (hw : w = if narrow then .w8 else .w16) : HasOpcode s i op ((Operand.const k).length w) := by
  refine ⟨by rw [hbytes, List.head?_cons], ?_⟩
  rw [hbytes, List.length_cons, length_constBytes, ← hw, Nat.add_comm]
  rfl

/-! ### Flags and PC after an instruction -/

theorem pastInstr_advance {s t : State} (hpc : t.pc = s.pc) (len : Nat) : PastInstr s (t.advance len) len := by
  rw [PastInstr, advance_pc, hpc, BitVec.toNat_add, BitVec.toNat_ofNat, Nat.add_mod_mod]

theorem showsNZ_setNZ {w : Nat} (s : State) (v : BitVec w) (len : Nat) : ShowsNZ ((s.setNZ v).advance len) v := by
  constructor
  · simp [BitVec.msb_eq_getLsbD_last]
  · simp [BitVec.toNat_eq, Bool.beq_eq_decide_eq]

theorem flagsKept_setNZ {w : Nat} {s t : State} (ht : ∀ f, t.flag f = s.flag f) (v : BitVec w) (len : Nat) :
    FlagsKept s ((t.setNZ v).advance len) [.n, .z] := by
  intro f hf
  obtain ⟨hn, hz⟩ : f ≠ .n ∧ f ≠ .z := by simpa using hf
  rw [advance_flag, setNZ_flag, if_neg hz, if_neg hn, ht]

/-! ### Registers written at a width -/

/-- A write of the accumulator at 8 bits keeps B (R20). -/
theorem hi_setAcc_of_w8 (s : State) {w : Width} (hw : w = .w8) (v : BitVec w.bits) : hi (s.setAcc w v).c = hi s.c := by
  subst hw
  rw [setAcc_c8, hi_joinWord]

/-- m = 1 selects 8 bits (R6). -/
theorem wA_eq_w8 {s : State} (hm : s.flag .m = true) : s.wA = .w8 := if_pos hm

/-- An index register written at its width holds the value itself: its high byte is zero at 8 bits (R22). -/
theorem toNat_setWidth_index (w : Width) (v : BitVec w.bits) : (v.setWidth 16).toNat = v.toNat :=
  BitVec.toNat_setWidth_of_le (by cases w <;> decide)

/-! ### One rule for each kind of instruction -/

section
variable {s : State} {i : Instr} {op : Byte}

/-- A result in the accumulator, with n and z. -/
theorem putsInAcc_of_exec {o : Operand} {f : (w : Width) → BitVec w.bits → BitVec w.bits}
    (hop : HasOpcode s i op (o.length s.wA))
    (hexec : exec i s = .next (s.replaceAcc s.wA (f s.wA (o.read s s.wA)) (o.length s.wA))) :
    PutsInAcc s i op o f := by
  have hacc := setAcc_acc s s.wA (f s.wA (o.read s s.wA))
  exact ⟨hop, _, hexec, rfl, hacc, fun hm => hi_setAcc_of_w8 s (wA_eq_w8 hm) _, showsNZ_setNZ _ _ _,
    flagsKept_setNZ (setAcc_flag s _ _) _ _, pastInstr_advance rfl _⟩

/-- A value in X, with n and z. -/
theorem putsInX_of_exec {len : Nat} {v : BitVec s.wXY.bits} (hop : HasOpcode s i op len)
    (hexec : exec i s = .next (((s.setX s.wXY v).setNZ v).advance len)) : PutsInX s i op len v :=
  ⟨hop, _, hexec, rfl, toNat_setWidth_index s.wXY v, showsNZ_setNZ _ _ _, flagsKept_setNZ (setX_flag s _ _) _ _,
    pastInstr_advance rfl _⟩

/-- A value in Y, with n and z. -/
theorem putsInY_of_exec {len : Nat} {v : BitVec s.wXY.bits} (hop : HasOpcode s i op len)
    (hexec : exec i s = .next (((s.setY s.wXY v).setNZ v).advance len)) : PutsInY s i op len v :=
  ⟨hop, _, hexec, rfl, toNat_setWidth_index s.wXY v, showsNZ_setNZ _ _ _, flagsKept_setNZ (setY_flag s _ _) _ _,
    pastInstr_advance rfl _⟩

/-- Every form of LDX (R161). -/
theorem putsInX_of_loadX {o : Operand} (hop : HasOpcode s i op (o.length s.wXY))
    (hexec : exec i s = .next (s.loadX s.wXY o)) : PutsInX s i op (o.length s.wXY) (o.read s s.wXY) :=
  putsInX_of_exec hop hexec

/-- Every form of LDY (R162). -/
theorem putsInY_of_loadY {o : Operand} (hop : HasOpcode s i op (o.length s.wXY))
    (hexec : exec i s = .next (s.loadY s.wXY o)) : PutsInY s i op (o.length s.wXY) (o.read s s.wXY) :=
  putsInY_of_exec hop hexec

/-- What is stored stays stored when PC moves on. -/
theorem stored_advance {t : State} {l : Loc} {w : Width} {v : BitVec w.bits} (h : Stored s t l w v) (len : Nat) :
    Stored s (t.advance len) l w v := by
  simpa only [Stored, advance_readByte] using h

/-- A plain store. -/
theorem stores_of_exec {f : MemForm} {w : Width} {v : BitVec w.bits} (hop : HasOpcode s i op f.length)
    (hexec : exec i s = .next (s.store w f v)) : Stores s i op f w v := by
  refine ⟨hop, _, hexec, ?_, stored_advance (stored_writeOp s (f.loc s) w v) f.length,
    pastInstr_advance (writeOp_pc s (f.loc s) w v) f.length⟩
  rw [State.store, writeOp_eq_with_mem]
  rfl

end

/-! ### The obligations -/

/-- Settles O22: `loadAcc` writes the operand as `replaceAcc` does; only the constant's length depends on m. -/
theorem loadAccumulator : Obligations.LoadAccumulator := by
  unfold Obligations.LoadAccumulator
  intro s dp sr addr const long
  have hconst : PutsInAcc s (.ldaConst const) 0xA9#8 (.const const) (fun _ v => v) :=
    putsInAcc_of_exec (hasOpcode_const rfl rfl) rfl
  refine ⟨?_, ?_, ?_, ?_, hconst, ?_, ?_, ?_, ?_, ?_, ?_, ?_, ?_, ?_, ?_⟩
  all_goals exact putsInAcc_of_exec ⟨rfl, rfl⟩ rfl

/-- Settles O23: five forms each; only the constant's length depends on x. -/
theorem loadIndexRegisters : Obligations.LoadIndexRegisters := by
  unfold Obligations.LoadIndexRegisters
  intro s dp addr const
  exact ⟨putsInX_of_loadX (hasOpcode_const rfl rfl) rfl, putsInX_of_loadX ⟨rfl, rfl⟩ rfl,
    putsInX_of_loadX ⟨rfl, rfl⟩ rfl, putsInX_of_loadX ⟨rfl, rfl⟩ rfl, putsInX_of_loadX ⟨rfl, rfl⟩ rfl,
    putsInY_of_loadY (hasOpcode_const rfl rfl) rfl, putsInY_of_loadY ⟨rfl, rfl⟩ rfl,
    putsInY_of_loadY ⟨rfl, rfl⟩ rfl, putsInY_of_loadY ⟨rfl, rfl⟩ rfl, putsInY_of_loadY ⟨rfl, rfl⟩ rfl⟩

/-- Settles O24: every form is a plain store of its register, or of zero, at its location. -/
theorem storesWriteTheirBytes : Obligations.StoresWriteTheirBytes := by
  unfold Obligations.StoresWriteTheirBytes
  intro s dp sr addr long
  iterate 23 refine ⟨stores_of_exec ⟨rfl, rfl⟩ rfl, ?_⟩
  exact stores_of_exec ⟨rfl, rfl⟩ rfl

end Sys2Proof.Proofs
end

section
/-! What the flag computations of ADC and SBC say (42_trb_tsb_adc_sbc_inc_dec.md R183 to R186), as the relations the
claims name: on every width, apart from any instruction. -/

namespace Sys2Proof.Proofs

open Machine Claims

/-- n and z of an outcome are those of its value. -/
def ShowsValue {w : Nat} (r : SumOutcome w) : Prop := r.n = r.value.msb ∧ r.z = (r.value == 0#w)

/-! ### Binary sums and differences (R183, R184) -/

theorem binarySum_binaryAdd {w : Nat} (a b : BitVec w) (carry : Bool) :
    BinarySum w a b (binaryAdd a b carry).value carry (binaryAdd a b carry).c (binaryAdd a b carry).v := by
  refine ⟨binaryAdd_toNat a b carry, rfl, ?_⟩
  simp only [← BitVec.msb_eq_getLsbD_last]
  rfl

/-- Complementing the operand turns the sign test of a sum into that of a difference. -/
theorem binarySub_v {w : Nat} (hw : 0 < w) (a b : BitVec w) (carry : Bool) :
    (binarySub a b carry).v = (a.msb != b.msb && (binarySub a b carry).value.msb != a.msb) := by
  have hsign : (a.msb == (~~~b).msb) = (a.msb != b.msb) := by
    rw [BitVec.msb_not, decide_eq_true hw, Bool.true_and]
    cases a.msb <;> cases b.msb <;> rfl
  rw [← hsign]
  rfl

theorem binaryDifference_binarySub {w : Nat} (hw : 0 < w) (a b : BitVec w) (carry : Bool) :
    BinaryDifference w a b (binarySub a b carry).value carry (binarySub a b carry).c (binarySub a b carry).v := by
  obtain ⟨hvalue, hc⟩ := binarySub_toNat a b carry
  refine ⟨hvalue, hc, ?_⟩
  simp only [← BitVec.msb_eq_getLsbD_last]
  exact binarySub_v hw a b carry

/-! ### v is two's-complement overflow (R186) -/

/-- The unsigned result is the unsigned sum, less 2^w when that carries out. -/
theorem binaryAdd_wraps {w : Nat} (a b : BitVec w) (carry : Bool) :
    (binaryAdd a b carry).value.toNat = a.toNat + b.toNat + carry.toNat ∨
      (binaryAdd a b carry).value.toNat + 2 ^ w = a.toNat + b.toNat + carry.toNat := by
  have ha := a.isLt
  have hb := b.isLt
  have hcarry := carry.toNat_le
  rw [binaryAdd_toNat]
  rcases Nat.lt_or_ge (a.toNat + b.toNat + carry.toNat) (2 ^ w) with hlt | hge
  · exact .inl (Nat.mod_eq_of_lt hlt)
  · rw [Nat.mod_eq_sub_mod hge, Nat.mod_eq_of_lt (by omega)]
    exact .inr (Nat.sub_add_cancel hge)

/-- Two summands overflow exactly when they have one sign and the result has the other, by the eight cases of the three
signs: each number is its unsigned value, less 2^w when its sign is set. -/
theorem signedSumOverflow_binaryAdd {w : Nat} (hw : 0 < w) (a b : BitVec w) (carry c : Bool) :
    SignedSumOverflow w a b (binaryAdd a b carry).value carry c (binaryAdd a b carry).v := by
  have hv : (binaryAdd a b carry).v = (a.msb == b.msb && (binaryAdd a b carry).value.msb != a.msb) := rfl
  have hwrap := binaryAdd_wraps a b carry
  rw [SignedSumOverflow, hv]
  generalize (binaryAdd a b carry).value = r at hwrap ⊢
  have hcarry := carry.toNat_le
  have ha := a.isLt
  have hb := b.isLt
  have hr := r.isLt
  have hhalf : 2 ^ w = 2 * 2 ^ (w - 1) := (mul_pow_sub_one hw.ne' 2).symm
  simp only [BitVec.toInt_eq_msb_cond, BitVec.msb_eq_decide]
  generalize 2 ^ w = n at *
  by_cases hsa : 2 ^ (w - 1) ≤ a.toNat <;> by_cases hsb : 2 ^ (w - 1) ≤ b.toNat <;>
    by_cases hsr : 2 ^ (w - 1) ≤ r.toNat <;> simp [hsa, hsb, hsr] <;> omega

theorem toInt_complement {w : Nat} (hw : 0 < w) (b : BitVec w) : (~~~b).toInt = -b.toInt - 1 := by
  have hb := b.isLt
  rw [BitVec.toInt_eq_msb_cond, BitVec.toInt_eq_msb_cond, BitVec.msb_not, BitVec.toNat_not, decide_eq_true hw]
  generalize 2 ^ w = n at hb ⊢
  cases b.msb <;> simp <;> omega

/-- The difference is the sum with the complement, which stands for minus the operand less one. -/
theorem signedDifferenceOverflow_binarySub {w : Nat} (hw : 0 < w) (a b : BitVec w) (carry c : Bool) :
    SignedDifferenceOverflow w a b (binarySub a b carry).value carry c (binarySub a b carry).v := by
  have hsum := signedSumOverflow_binaryAdd hw a (~~~b) carry c
  rw [SignedSumOverflow, toInt_complement hw] at hsum
  rw [SignedDifferenceOverflow, show a.toInt - b.toInt - (1 - (carry.toNat : Int)) =
    a.toInt + (-b.toInt - 1) + carry.toNat by ring]
  exact hsum

/-! ### Decimal sums and differences on valid digits (R185) -/

theorem digits_iff_packedDigits (k a : Nat) : Digits k a ↔ PackedDigits k a := by
  induction k generalizing a with
  | zero => rfl
  | succ k ih => exact and_congr_right fun _ => ih (a / 16)

theorem decimalNumber_eq_packedValue (k a : Nat) : decimalNumber k a = packedValue k a := by
  induction k generalizing a with
  | zero => rfl
  | succ k ih => rw [decimalNumber, packedValue, ih]

section
variable {w : Width} {a b : BitVec w.bits} (ha : Digits (w.bits / 4) a.toNat) (hb : Digits (w.bits / 4) b.toNat)
  (draw : Nat) (carry : Bool)
include ha hb

theorem decimalDigitsValid_both :
    (decimalDigitsValid (w.bits / 4) a.toNat && decimalDigitsValid (w.bits / 4) b.toNat) = true := by
  rw [Bool.and_eq_true, decimalDigitsValid_iff, decimalDigitsValid_iff, ← digits_iff_packedDigits,
    ← digits_iff_packedDigits]
  exact ⟨ha, hb⟩

/-- On valid digits ADC answers the digit-wise sum. -/
theorem decimalAdd_of_digits : decimalAdd draw w a b carry =
    decimalValid draw (decimalCase false w a b carry)
      (BitVec.ofNat w.bits (decimalAddDigits (w.bits / 4) a.toNat b.toNat carry.toNat).1)
      ((decimalAddDigits (w.bits / 4) a.toNat b.toNat carry.toNat).2 == 1) :=
  if_pos (decimalDigitsValid_both ha hb)

/-- On valid digits SBC answers the digit-wise difference. -/
theorem decimalSub_of_digits : decimalSub draw w a b carry =
    decimalValid draw (decimalCase true w a b carry)
      (BitVec.ofNat w.bits (decimalSubDigits (w.bits / 4) a.toNat b.toNat (1 - carry.toNat)).1)
      ((decimalSubDigits (w.bits / 4) a.toNat b.toNat (1 - carry.toNat)).2 == 0) :=
  if_pos (decimalDigitsValid_both ha hb)

theorem decimalSum_decimalAdd (v : Bool) :
    DecimalSum w.bits a b (decimalAdd draw w a b carry).value carry (decimalAdd draw w a b carry).c v := by
  obtain ⟨hdigits, hlt, hcarry, hsum⟩ := decimalAddDigits_spec (w.bits / 4) a.toNat b.toNat carry.toNat
    ((digits_iff_packedDigits _ _).mp ha) ((digits_iff_packedDigits _ _).mp hb) carry.toNat_le
  rw [decimalAdd_of_digits ha hb]
  generalize decimalAddDigits (w.bits / 4) a.toNat b.toNat carry.toNat = r at *
  rw [← Width.two_pow] at hlt
  have hc : (r.2 == 1).toNat = r.2 := by interval_cases r.2 <;> rfl
  simp only [DecimalSum, decimalValid, BitVec.toNat_ofNat, Nat.mod_eq_of_lt hlt, hc, digits_iff_packedDigits,
    decimalNumber_eq_packedValue]
  exact ⟨hdigits, hsum⟩

theorem decimalDifference_decimalSub (v : Bool) :
    DecimalDifference w.bits a b (decimalSub draw w a b carry).value carry (decimalSub draw w a b carry).c v := by
  obtain ⟨hdigits, hlt, hborrow, hdifference⟩ := decimalSubDigits_spec (w.bits / 4) a.toNat b.toNat (1 - carry.toNat)
    ((digits_iff_packedDigits _ _).mp ha) ((digits_iff_packedDigits _ _).mp hb) (Nat.sub_le _ _)
  rw [decimalSub_of_digits ha hb]
  generalize decimalSubDigits (w.bits / 4) a.toNat b.toNat (1 - carry.toNat) = r at *
  rw [← Width.two_pow] at hlt
  have hc : 1 - (r.2 == 0).toNat = r.2 := by interval_cases r.2 <;> rfl
  simp only [DecimalDifference, decimalValid, BitVec.toNat_ofNat, Nat.mod_eq_of_lt hlt, hc, digits_iff_packedDigits,
    decimalNumber_eq_packedValue]
  exact ⟨hdigits, hdifference⟩

theorem showsValue_decimalAdd : ShowsValue (decimalAdd draw w a b carry) := by
  rw [decimalAdd_of_digits ha hb]
  exact ⟨rfl, rfl⟩

theorem showsValue_decimalSub : ShowsValue (decimalSub draw w a b carry) := by
  rw [decimalSub_of_digits ha hb]
  exact ⟨rfl, rfl⟩

end

end Sys2Proof.Proofs
end

section
/-! ADC and SBC, TRB and TSB, INC and DEC (42_trb_tsb_adc_sbc_inc_dec.md): one rule for each kind of instruction, which
every operand form then meets by its bytes and its arm of `exec`. -/

namespace Sys2Proof.Proofs

open Machine Claims

/-! ### A sum put in the accumulator (R182) -/

section
variable {s : State} {i : Instr} {op : Byte} {o : Operand}

/-- What an outcome of a sum leaves of P. -/
theorem flagsKept_setSumFlags {w : Nat} {t : State} (ht : ∀ f, t.flag f = s.flag f) (r : SumOutcome w) (len : Nat) :
    FlagsKept s ((t.setSumFlags r).advance len) [.n, .v, .z, .c] := by
  intro f hf
  obtain ⟨hn, hv, hz, hc⟩ : f ≠ .n ∧ f ≠ .v ∧ f ≠ .z ∧ f ≠ .c := by simpa using hf
  rw [advance_flag, setSumFlags_flag, if_neg hc, if_neg hz, if_neg hv, if_neg hn, ht]

theorem showsNZ_setSumFlags {w : Nat} {r : SumOutcome w} (hr : ShowsValue r) (t : State) (len : Nat) :
    ShowsNZ ((t.setSumFlags r).advance len) r.value := by
  obtain ⟨hn, hz⟩ := hr
  constructor
  · simp [hn, BitVec.msb_eq_getLsbD_last]
  · simp [hz, BitVec.toNat_eq, Bool.beq_eq_decide_eq]

/-- Any outcome in the accumulator and in n, v, z, c, drawn or not, changes nothing else. -/
theorem sumsSomehow_of_exec {r : SumOutcome s.wA.bits}
    (hexec : exec i s = .next (((s.setAcc s.wA r.value).setSumFlags r).advance (o.length s.wA))) :
    SumsSomehow s i o :=
  ⟨_, hexec, rfl, fun hm => hi_setAcc_of_w8 s (wA_eq_w8 hm) _, flagsKept_setSumFlags (setAcc_flag s _ _) r _,
    pastInstr_advance rfl _⟩

/-- An outcome whose n and z show its value, in the accumulator and in n, v, z, c. -/
theorem sums_of_exec {r : SumOutcome s.wA.bits}
    {rel : (w : Nat) → (acc mv r : BitVec w) → (carry c v : Bool) → Prop} (hop : HasOpcode s i op (o.length s.wA))
    (hexec : exec i s = .next (((s.setAcc s.wA r.value).setSumFlags r).advance (o.length s.wA)))
    (hshows : ShowsValue r) (hrel : rel s.wA.bits (s.acc s.wA) (o.read s s.wA) r.value (s.flag .c) r.c r.v) :
    Sums s i op o rel := by
  have hacc : (((s.setAcc s.wA r.value).setSumFlags r).advance (o.length s.wA)).acc s.wA = r.value :=
    setAcc_acc s s.wA r.value
  refine ⟨hop, _, hexec, rfl, fun hm => hi_setAcc_of_w8 s (wA_eq_w8 hm) _, ?_, ?_,
    flagsKept_setSumFlags (setAcc_flag s _ _) r _, pastInstr_advance rfl _⟩
  · simpa [hacc] using hrel
  · rw [hacc]
    exact showsNZ_setSumFlags hshows _ _

/-! ### ADC and SBC of any operand, by d (R183 to R186) -/

theorem addOutcome_binary (hd : s.flag .d = false) (w : Width) (a b : BitVec w.bits) :
    s.addOutcome w a b = binaryAdd a b (s.flag .c) := if_neg (by simp [hd])

theorem subOutcome_binary (hd : s.flag .d = false) (w : Width) (a b : BitVec w.bits) :
    s.subOutcome w a b = binarySub a b (s.flag .c) := if_neg (by simp [hd])

theorem addOutcome_decimal (hd : s.flag .d = true) (w : Width) (a b : BitVec w.bits) :
    s.addOutcome w a b = decimalAdd s.drawCount w a b (s.flag .c) := if_pos hd

theorem subOutcome_decimal (hd : s.flag .d = true) (w : Width) (a b : BitVec w.bits) :
    s.subOutcome w a b = decimalSub s.drawCount w a b (s.flag .c) := if_pos hd

/-- What ADC says with d = 0 is any relation that its binary sum meets. -/
theorem sums_of_binaryAdd {rel : (w : Nat) → (acc mv r : BitVec w) → (carry c v : Bool) → Prop}
    (hrel : ∀ {w : Nat} (_ : 0 < w) (a b : BitVec w) (carry : Bool),
      rel w a b (binaryAdd a b carry).value carry (binaryAdd a b carry).c (binaryAdd a b carry).v)
    (hd : s.flag .d = false) (hop : HasOpcode s i op (o.length s.wA))
    (hexec : exec i s = .next (s.addWithCarry s.wA o)) : Sums s i op o rel := by
  rw [State.addWithCarry, addOutcome_binary hd] at hexec
  exact sums_of_exec hop hexec ⟨rfl, rfl⟩ (hrel (Width.bits_pos s.wA) _ _ _)

/-- What SBC says with d = 0 is any relation that its binary difference meets. -/
theorem sums_of_binarySub {rel : (w : Nat) → (acc mv r : BitVec w) → (carry c v : Bool) → Prop}
    (hrel : ∀ {w : Nat} (_ : 0 < w) (a b : BitVec w) (carry : Bool),
      rel w a b (binarySub a b carry).value carry (binarySub a b carry).c (binarySub a b carry).v)
    (hd : s.flag .d = false) (hop : HasOpcode s i op (o.length s.wA))
    (hexec : exec i s = .next (s.subWithCarry s.wA o)) : Sums s i op o rel := by
  rw [State.subWithCarry, subOutcome_binary hd] at hexec
  exact sums_of_exec hop hexec ⟨rfl, rfl⟩ (hrel (Width.bits_pos s.wA) _ _ _)

theorem sums_of_decimalAdd (hdecimal : DecimalOperands s o) (hop : HasOpcode s i op (o.length s.wA))
    (hexec : exec i s = .next (s.addWithCarry s.wA o)) : Sums s i op o DecimalSum := by
  obtain ⟨hd, hacc, hmv⟩ := hdecimal
  rw [State.addWithCarry, addOutcome_decimal hd] at hexec
  exact sums_of_exec hop hexec (showsValue_decimalAdd hacc hmv _ _) (decimalSum_decimalAdd hacc hmv _ _ _)

theorem sums_of_decimalSub (hdecimal : DecimalOperands s o) (hop : HasOpcode s i op (o.length s.wA))
    (hexec : exec i s = .next (s.subWithCarry s.wA o)) : Sums s i op o DecimalDifference := by
  obtain ⟨hd, hacc, hmv⟩ := hdecimal
  rw [State.subWithCarry, subOutcome_decimal hd] at hexec
  exact sums_of_exec hop hexec (showsValue_decimalSub hacc hmv _ _) (decimalDifference_decimalSub hacc hmv _ _ _)

end

/-! ### The forms of ADC and SBC -/

section
variable {s : State} {P : Instr → Byte → Operand → Prop}

/-- What holds of every instruction that is `addWithCarry` of an operand holds of the fifteen forms of ADC. -/
theorem adc_forms
    (h : ∀ {i op o}, HasOpcode s i op (o.length s.wA) → exec i s = .next (s.addWithCarry s.wA o) → P i op o)
    (dp sr : Byte) (addr const : Word) (long : Addr) :
    P (.adcIndDpX dp) 0x61#8 (.mem (.indDpX dp)) ∧ P (.adcSr sr) 0x63#8 (.mem (.sr sr)) ∧
    P (.adcDp dp) 0x65#8 (.mem (.dp dp)) ∧ P (.adcLongIndDp dp) 0x67#8 (.mem (.longIndDp dp)) ∧
    P (.adcConst const) 0x69#8 (.const const) ∧ P (.adcAddr addr) 0x6D#8 (.mem (.addr addr)) ∧
    P (.adcLong long) 0x6F#8 (.mem (.long long)) ∧ P (.adcIndDpY dp) 0x71#8 (.mem (.indDpY dp)) ∧
    P (.adcIndDp dp) 0x72#8 (.mem (.indDp dp)) ∧ P (.adcIndSrY sr) 0x73#8 (.mem (.indSrY sr)) ∧
    P (.adcDpX dp) 0x75#8 (.mem (.dpX dp)) ∧ P (.adcLongIndDpY dp) 0x77#8 (.mem (.longIndDpY dp)) ∧
    P (.adcAddrY addr) 0x79#8 (.mem (.addrY addr)) ∧ P (.adcAddrX addr) 0x7D#8 (.mem (.addrX addr)) ∧
    P (.adcLongX long) 0x7F#8 (.mem (.longX long)) := by
  have hconst : P (.adcConst const) 0x69#8 (.const const) := h (hasOpcode_const rfl rfl) rfl
  refine ⟨?_, ?_, ?_, ?_, hconst, ?_, ?_, ?_, ?_, ?_, ?_, ?_, ?_, ?_, ?_⟩
  all_goals exact h ⟨rfl, rfl⟩ rfl

/-- What holds of every instruction that is `subWithCarry` of an operand holds of the fifteen forms of SBC. -/
theorem sbc_forms
    (h : ∀ {i op o}, HasOpcode s i op (o.length s.wA) → exec i s = .next (s.subWithCarry s.wA o) → P i op o)
    (dp sr : Byte) (addr const : Word) (long : Addr) :
    P (.sbcIndDpX dp) 0xE1#8 (.mem (.indDpX dp)) ∧ P (.sbcSr sr) 0xE3#8 (.mem (.sr sr)) ∧
    P (.sbcDp dp) 0xE5#8 (.mem (.dp dp)) ∧ P (.sbcLongIndDp dp) 0xE7#8 (.mem (.longIndDp dp)) ∧
    P (.sbcConst const) 0xE9#8 (.const const) ∧ P (.sbcAddr addr) 0xED#8 (.mem (.addr addr)) ∧
    P (.sbcLong long) 0xEF#8 (.mem (.long long)) ∧ P (.sbcIndDpY dp) 0xF1#8 (.mem (.indDpY dp)) ∧
    P (.sbcIndDp dp) 0xF2#8 (.mem (.indDp dp)) ∧ P (.sbcIndSrY sr) 0xF3#8 (.mem (.indSrY sr)) ∧
    P (.sbcDpX dp) 0xF5#8 (.mem (.dpX dp)) ∧ P (.sbcLongIndDpY dp) 0xF7#8 (.mem (.longIndDpY dp)) ∧
    P (.sbcAddrY addr) 0xF9#8 (.mem (.addrY addr)) ∧ P (.sbcAddrX addr) 0xFD#8 (.mem (.addrX addr)) ∧
    P (.sbcLongX long) 0xFF#8 (.mem (.longX long)) := by
  have hconst : P (.sbcConst const) 0xE9#8 (.const const) := h (hasOpcode_const rfl rfl) rfl
  refine ⟨?_, ?_, ?_, ?_, hconst, ?_, ?_, ?_, ?_, ?_, ?_, ?_, ?_, ?_, ?_⟩
  all_goals exact h ⟨rfl, rfl⟩ rfl

end

/-! ### A result written back (R180, R181, R187, R190) -/

section
variable {s t : State} {i : Instr} {op : Byte}

/-- What is stored stays stored when n and z are written. -/
theorem stored_setNZ {l : Loc} {w : Width} {v : BitVec w.bits} (h : Stored s t l w v) {w' : Nat} (r : BitVec w') :
    Stored s (t.setNZ r) l w v := by
  simpa only [Stored, setNZ_readByte] using h

/-- A store into a state whose P alone differs is a store into the state. -/
theorem stored_of_setFlag {f : Flag} {b : Bool} {l : Loc} {w : Width} {v : BitVec w.bits}
    (h : Stored (s.setFlag f b) t l w v) : Stored s t l w v := by
  simpa only [Stored, setFlag_kindAt, setFlag_readByte] using h

/-- TRB and TSB with either result: z before the store. -/
theorem testsAndStores_of_exec {f : MemForm} {r : BitVec s.wA.bits} (hop : HasOpcode s i op f.length)
    (hexec : exec i s = .next (((s.setFlag .z ((s.readOp (f.loc s) s.wA &&& s.acc s.wA) == 0#s.wA.bits)).writeBack
      (f.loc s) s.wA r).advance f.length)) : TestsAndStores s i op f r := by
  refine ⟨hop, _, hexec, ?_, stored_advance (stored_of_setFlag (stored_writeBack _ _ _ r)) _, ?_, ?_,
    pastInstr_advance (writeBack_pc _ _ _ r) _⟩
  · rw [writeBack_eq_with_mem]
    rfl
  · simp [Bool.beq_eq_decide_eq]
  · intro g hg
    have hz : g ≠ .z := by simpa using hg
    rw [advance_flag, writeBack_flag, setFlag_flag, if_neg hz]

theorem targetWrite_eq_with_c_mem (g : Target) (s : State) (w : Width) (r : BitVec w.bits) :
    g.write s w r = { s with c := (g.write s w r).c, mem := (g.write s w r).mem } := by
  cases g with
  | acc => rfl
  | mem f =>
    rw [Target.write, writeBack_eq_with_mem]

/-- A result is back where it came from once it is written to its target. -/
theorem putBack_targetWrite (s : State) (g : Target) (w : Width) (r : BitVec w.bits) :
    PutBack s (g.write s w r) g w r := by
  cases g with
  | acc => exact ⟨setAcc_acc s w r, fun hw => hi_setAcc_of_w8 s hw r, rfl⟩
  | mem f => exact ⟨writeBack_c s _ w r, stored_writeBack s _ w r⟩

/-- Neither n and z nor PC are where a result goes. -/
theorem putBack_setNZ_advance {g : Target} {w : Width} {r : BitVec w.bits} (h : PutBack s t g w r) {w' : Nat}
    (v : BitVec w') (len : Nat) : PutBack s ((t.setNZ v).advance len) g w r := by
  cases g with
  | acc => exact h
  | mem f =>
    obtain ⟨hc, hstored⟩ := h
    exact ⟨hc, stored_advance (stored_setNZ hstored v) len⟩

/-- A result written back with n and z, c kept. -/
theorem modifies_of_exec {g : Target} {r : BitVec s.wA.bits}
    {rel : (w : Width) → (operand result : Nat) → (carry carryOut : Bool) → Prop} (hop : HasOpcode s i op g.length)
    (hexec : exec i s = .next (((g.write s s.wA r).setNZ r).advance g.length))
    (hrel : rel s.wA (g.read s s.wA).toNat r.toNat (s.flag .c) (s.flag .c)) :
    Modifies s i op g [.n, .z] rel := by
  refine ⟨hop, _, r, hexec, ?_, by simpa using hrel, putBack_setNZ_advance (putBack_targetWrite s g _ r) r _,
    showsNZ_setNZ _ _ _, flagsKept_setNZ (targetWrite_flag g s _ r) r _, pastInstr_advance (targetWrite_pc g s _ r) _⟩
  rw [targetWrite_eq_with_c_mem]
  rfl

/-- Every form of INC (R187). -/
theorem modifies_of_increment {g : Target} (hop : HasOpcode s i op g.length)
    (hexec : exec i s = .next (s.increment s.wA g)) :
    Modifies s i op g [.n, .z] (fun w t r _ _ => r = (t + 1) % 2 ^ w.bits) := by
  refine modifies_of_exec hop hexec ?_
  rw [BitVec.toNat_add, BitVec.toNat_ofNat, Nat.add_mod_mod]

/-- Every form of DEC (R190). -/
theorem modifies_of_decrement {g : Target} (hop : HasOpcode s i op g.length)
    (hexec : exec i s = .next (s.decrement s.wA g)) :
    Modifies s i op g [.n, .z] (fun w t r _ _ => r = (t + 2 ^ w.bits - 1) % 2 ^ w.bits) := by
  refine modifies_of_exec hop hexec ?_
  have hone : 1 < 2 ^ s.wA.bits := Nat.one_lt_two_pow (Width.bits_pos s.wA).ne'
  rw [BitVec.toNat_sub', BitVec.toNat_ofNat, Nat.mod_eq_of_lt hone, Nat.add_sub_assoc hone.le]

end

/-! ### The obligations -/

/-- Settles O25: z and the result of each form are those that `testReset` and `testSet` compute before they write. -/
theorem testAndChangeBits : Obligations.TestAndChangeBits := by
  unfold Obligations.TestAndChangeBits
  intro s dp addr
  exact ⟨testsAndStores_of_exec ⟨rfl, rfl⟩ rfl, testsAndStores_of_exec ⟨rfl, rfl⟩ rfl,
    testsAndStores_of_exec ⟨rfl, rfl⟩ rfl, testsAndStores_of_exec ⟨rfl, rfl⟩ rfl⟩

/-- Settles O26: every form is `addWithCarry`, which with d = 0 is the binary sum. -/
theorem addWithCarryBinary : Obligations.AddWithCarryBinary := by
  unfold Obligations.AddWithCarryBinary
  intro s dp sr addr const long hd
  exact adc_forms (P := fun i op o => Sums s i op o BinarySum)
    (sums_of_binaryAdd (fun _ => binarySum_binaryAdd) hd) dp sr addr const long

/-- Settles O27: every form is `subWithCarry`, which with d = 0 is the binary difference. -/
theorem subtractWithBorrowBinary : Obligations.SubtractWithBorrowBinary := by
  unfold Obligations.SubtractWithBorrowBinary
  intro s dp sr addr const long hd
  exact sbc_forms (P := fun i op o => Sums s i op o BinaryDifference)
    (sums_of_binarySub binaryDifference_binarySub hd) dp sr addr const long

/-- Settles O28: the sign tests of the binary sum and difference are two's-complement overflow. -/
theorem overflowIsSigned : Obligations.OverflowIsSigned := by
  unfold Obligations.OverflowIsSigned
  intro s dp sr addr const long hd
  have hadc := adc_forms (P := fun i op o => Sums s i op o SignedSumOverflow)
    (sums_of_binaryAdd (fun hw a b carry => signedSumOverflow_binaryAdd hw a b carry _) hd) dp sr addr const long
  have hsbc := sbc_forms (P := fun i op o => Sums s i op o SignedDifferenceOverflow)
    (sums_of_binarySub (fun hw a b carry => signedDifferenceOverflow_binarySub hw a b carry _) hd)
    dp sr addr const long
  simpa only [and_assoc] using And.intro hadc hsbc

/-- Settles O29: on valid digits the outcome of `decimalAdd` and `decimalSub` is the digit-wise one, which
`decimalAddDigits_spec` and `decimalSubDigits_spec` give as numbers. -/
theorem decimalArithmetic : Obligations.DecimalArithmetic := by
  unfold Obligations.DecimalArithmetic
  intro s dp sr addr const long
  have hadc := adc_forms (P := fun i op o => DecimalOperands s o → Sums s i op o DecimalSum)
    (fun hop hexec hdecimal => sums_of_decimalAdd hdecimal hop hexec) dp sr addr const long
  have hsbc := sbc_forms (P := fun i op o => DecimalOperands s o → Sums s i op o DecimalDifference)
    (fun hop hexec hdecimal => sums_of_decimalSub hdecimal hop hexec) dp sr addr const long
  simpa only [and_assoc] using And.intro hadc hsbc

/-- Settles O30: whatever the outcome, drawn or not, `addWithCarry` and `subWithCarry` write no more than it. -/
theorem sumsAlwaysComplete : Obligations.SumsAlwaysComplete := by
  unfold Obligations.SumsAlwaysComplete
  intro s dp sr addr const long
  have hadc := adc_forms (P := fun i _ o => SumsSomehow s i o) (fun _ hexec => sumsSomehow_of_exec hexec)
    dp sr addr const long
  have hsbc := sbc_forms (P := fun i _ o => SumsSomehow s i o) (fun _ hexec => sumsSomehow_of_exec hexec)
    dp sr addr const long
  simpa only [and_assoc] using And.intro hadc hsbc

/-- Settles O31: each form is `increment` or `decrement` of its target. -/
theorem incrementAndDecrement : Obligations.IncrementAndDecrement := by
  unfold Obligations.IncrementAndDecrement
  intro s dp addr
  exact ⟨modifies_of_increment ⟨rfl, rfl⟩ rfl, modifies_of_increment ⟨rfl, rfl⟩ rfl,
    modifies_of_increment ⟨rfl, rfl⟩ rfl, modifies_of_increment ⟨rfl, rfl⟩ rfl, modifies_of_increment ⟨rfl, rfl⟩ rfl,
    modifies_of_decrement ⟨rfl, rfl⟩ rfl, modifies_of_decrement ⟨rfl, rfl⟩ rfl, modifies_of_decrement ⟨rfl, rfl⟩ rfl,
    modifies_of_decrement ⟨rfl, rfl⟩ rfl, modifies_of_decrement ⟨rfl, rfl⟩ rfl⟩

/-- Settles O32: each writes its index register plus or minus one at the width of x, with n and z. -/
theorem indexIncrementAndDecrement : Obligations.IndexIncrementAndDecrement := by
  unfold Obligations.IndexIncrementAndDecrement
  intro s
  exact ⟨putsInX_of_exec ⟨rfl, rfl⟩ rfl, putsInY_of_exec ⟨rfl, rfl⟩ rfl, putsInX_of_exec ⟨rfl, rfl⟩ rfl,
    putsInY_of_exec ⟨rfl, rfl⟩ rfl⟩

end Sys2Proof.Proofs
end

section
/-! Logic, BIT and comparisons (43_logic_bit_compare.md): one rule for each kind of instruction, which every operand form
then meets by its bytes and its arm of `exec`. -/

namespace Sys2Proof.Proofs

open Machine Claims

section
variable {s : State} {i : Instr} {op : Byte}

/-! ### AND, ORA and EOR (R200 to R202) -/

section
variable {o : Operand} (hop : HasOpcode s i op (o.length s.wA))
include hop

/-- Every form of AND (R200). -/
theorem putsInAcc_of_andAcc (hexec : exec i s = .next (s.andAcc s.wA o)) :
    PutsInAcc s i op o (fun w v => s.acc w &&& v) := putsInAcc_of_exec hop hexec

/-- Every form of ORA (R201). -/
theorem putsInAcc_of_orAcc (hexec : exec i s = .next (s.orAcc s.wA o)) :
    PutsInAcc s i op o (fun w v => s.acc w ||| v) := putsInAcc_of_exec hop hexec

/-- Every form of EOR (R202). -/
theorem putsInAcc_of_xorAcc (hexec : exec i s = .next (s.xorAcc s.wA o)) :
    PutsInAcc s i op o (fun w v => s.acc w ^^^ v) := putsInAcc_of_exec hop hexec

end

/-! ### BIT (R203) -/

/-- z, n and v after BIT of memory, every other flag kept. -/
theorem bitMemory_flag (s : State) (w : Width) (f : MemForm) (g : Flag) :
    (s.bitMemory w f).flag g =
      if g = .v then (s.readOp (f.loc s) w).getLsbD (w.bits - 2)
      else if g = .n then (s.readOp (f.loc s) w).msb
      else if g = .z then s.acc w &&& s.readOp (f.loc s) w == 0#w.bits else s.flag g := by
  simp only [State.bitMemory, State.testBits, advance_flag, setFlag_flag]

/-- z after BIT of a constant, every other flag kept. -/
theorem bitConstant_flag (s : State) (w : Width) (k : Word) (g : Flag) :
    (s.bitConstant w k).flag g =
      if g = .z then s.acc w &&& k.setWidth w.bits == 0#w.bits else s.flag g := by
  simp only [State.bitConstant, State.testBits, advance_flag, setFlag_flag]

/-- Every memory form of BIT: n and v come from the operand itself. -/
theorem testsBits_of_bitMemory {f : MemForm} (hop : HasOpcode s i op f.length)
    (hexec : exec i s = .next (s.bitMemory s.wA f)) :
    HasOpcode s i op f.length ∧ ∃ t, exec i s = .next t ∧ t = { s with p := t.p, pc := t.pc } ∧
      t.flag .z = decide (s.acc s.wA &&& s.readOp (f.loc s) s.wA = 0#s.wA.bits) ∧
      t.flag .n = (s.readOp (f.loc s) s.wA).getLsbD (s.wA.bits - 1) ∧
      t.flag .v = (s.readOp (f.loc s) s.wA).getLsbD (s.wA.bits - 2) ∧ FlagsKept s t [.n, .v, .z] ∧
      PastInstr s t f.length := by
  refine ⟨hop, _, hexec, rfl, ?_, ?_, ?_, ?_, pastInstr_advance rfl _⟩
  · simp [bitMemory_flag, Bool.beq_eq_decide_eq]
  · simp [bitMemory_flag, BitVec.msb_eq_getLsbD_last]
  · simp [bitMemory_flag]
  · intro g hg
    obtain ⟨hn, hv, hz⟩ : g ≠ .n ∧ g ≠ .v ∧ g ≠ .z := by simpa using hg
    rw [bitMemory_flag, if_neg hv, if_neg hn, if_neg hz]

/-- BIT of a constant: n and v are kept. -/
theorem testsBits_of_bitConstant {k : Word} (hop : HasOpcode s i op ((Operand.const k).length s.wA))
    (hexec : exec i s = .next (s.bitConstant s.wA k)) :
    HasOpcode s i op ((Operand.const k).length s.wA) ∧
      ∃ t, exec i s = .next t ∧ t = { s with p := t.p, pc := t.pc } ∧
        t.flag .z = decide (s.acc s.wA &&& k.setWidth s.wA.bits = 0#s.wA.bits) ∧ FlagsKept s t [.z] ∧
        PastInstr s t ((Operand.const k).length s.wA) := by
  refine ⟨hop, _, hexec, rfl, ?_, ?_, pastInstr_advance rfl _⟩
  · simp [bitConstant_flag, Bool.beq_eq_decide_eq]
  · intro g hg
    have hz : g ≠ .z := by simpa using hg
    rw [bitConstant_flag, if_neg hz]

/-! ### CMP, CPX and CPY (R204 to R207) -/

/-- Every comparison, at the width of its register: c is written before n and z and is none of them. -/
theorem compares_of_compare {w : Width} {reg : BitVec w.bits} {o : Operand} (hop : HasOpcode s i op (o.length w))
    (hexec : exec i s = .next (s.compare w reg o)) : Compares s i op w reg o := by
  refine ⟨hop, _, hexec, rfl, showsNZ_setNZ _ _ _, ?_, ?_, pastInstr_advance rfl _⟩
  · simp [State.compare]
  · intro g hg
    obtain ⟨hn, hz, hc⟩ : g ≠ .n ∧ g ≠ .z ∧ g ≠ .c := by simpa using hg
    rw [State.compare, advance_flag, compareFlags_flag, if_neg hz, if_neg hn, if_neg hc]

end

/-! ### The obligations -/

/-- Settles O33: every form is `andAcc`, `orAcc` or `xorAcc` of its operand; only the constant's length depends on m. -/
theorem bitwiseLogic : Obligations.BitwiseLogic := by
  unfold Obligations.BitwiseLogic
  intro s dp sr addr const long
  iterate 4 refine ⟨putsInAcc_of_andAcc ⟨rfl, rfl⟩ rfl, ?_⟩
  refine ⟨putsInAcc_of_andAcc (hasOpcode_const rfl rfl) rfl, ?_⟩
  iterate 10 refine ⟨putsInAcc_of_andAcc ⟨rfl, rfl⟩ rfl, ?_⟩
  iterate 4 refine ⟨putsInAcc_of_orAcc ⟨rfl, rfl⟩ rfl, ?_⟩
  refine ⟨putsInAcc_of_orAcc (hasOpcode_const rfl rfl) rfl, ?_⟩
  iterate 10 refine ⟨putsInAcc_of_orAcc ⟨rfl, rfl⟩ rfl, ?_⟩
  iterate 4 refine ⟨putsInAcc_of_xorAcc ⟨rfl, rfl⟩ rfl, ?_⟩
  refine ⟨putsInAcc_of_xorAcc (hasOpcode_const rfl rfl) rfl, ?_⟩
  iterate 9 refine ⟨putsInAcc_of_xorAcc ⟨rfl, rfl⟩ rfl, ?_⟩
  exact putsInAcc_of_xorAcc ⟨rfl, rfl⟩ rfl

/-- Settles O34: the four memory forms are `bitMemory`, the fifth is `bitConstant`. -/
theorem bitTests : Obligations.BitTests := by
  unfold Obligations.BitTests
  intro s dp addr const
  exact ⟨testsBits_of_bitMemory ⟨rfl, rfl⟩ rfl, testsBits_of_bitMemory ⟨rfl, rfl⟩ rfl,
    testsBits_of_bitMemory ⟨rfl, rfl⟩ rfl, testsBits_of_bitMemory ⟨rfl, rfl⟩ rfl,
    testsBits_of_bitConstant (hasOpcode_const rfl rfl) rfl⟩

/-- Settles O35: every form is `compare` of its register; a constant's length depends on m for CMP, on x for CPX and
CPY. -/
theorem comparisons : Obligations.Comparisons := by
  unfold Obligations.Comparisons
  intro s dp sr addr const long
  iterate 4 refine ⟨compares_of_compare ⟨rfl, rfl⟩ rfl, ?_⟩
  refine ⟨compares_of_compare (hasOpcode_const rfl rfl) rfl, ?_⟩
  iterate 10 refine ⟨compares_of_compare ⟨rfl, rfl⟩ rfl, ?_⟩
  exact ⟨compares_of_compare (hasOpcode_const rfl rfl) rfl, compares_of_compare ⟨rfl, rfl⟩ rfl,
    compares_of_compare ⟨rfl, rfl⟩ rfl, compares_of_compare (hasOpcode_const rfl rfl) rfl,
    compares_of_compare ⟨rfl, rfl⟩ rfl, compares_of_compare ⟨rfl, rfl⟩ rfl⟩

end Sys2Proof.Proofs
end

section
/-! LSR, ASL, ROL and ROR (44_shift_rotate.md): the value of each rotate as a number, then one rule for each instruction,
which its five forms meet by their bytes and their arm of `exec`. -/

namespace Sys2Proof.Proofs

open Machine Claims

/-! ### The values of the rotates (R222, R223) -/

/-- The old carry, widened to an operand, is 0 or 1. -/
theorem toNat_setWidth_ofBool {w : Nat} (hw : 0 < w) (carry : Bool) :
    ((BitVec.ofBool carry).setWidth w).toNat = carry.toNat := by
  rw [BitVec.toNat_setWidth_of_le hw, BitVec.toNat_ofBool]

/-- ROL doubles modulo 2^w and adds the old carry: bit 0 of the doubled operand is free for it. -/
theorem rotateLeft_value {w : Nat} (hw : 0 < w) (t : BitVec w) (carry : Bool) :
    (rotateLeft t carry).value.toNat = (2 * t.toNat + carry.toNat) % 2 ^ w := by
  have hdisjoint : (t <<< 1) &&& (BitVec.ofBool carry).setWidth w = 0#w := by
    ext j hj
    cases j <;> simp
  rw [rotateLeft, ← BitVec.add_eq_or_of_and_eq_zero _ _ hdisjoint, BitVec.toNat_add, toNat_setWidth_ofBool hw,
    BitVec.toNat_shiftLeft, Nat.mod_add_mod, Nat.shiftLeft_eq, pow_one, Nat.mul_comm]

/-- ROR halves and adds the old carry at the top: the top bit of the halved operand is free for it. -/
theorem rotateRight_value {w : Nat} (hw : 0 < w) (t : BitVec w) (carry : Bool) :
    (rotateRight t carry).value.toNat = t.toNat / 2 + 2 ^ (w - 1) * carry.toNat := by
  have hpow : 2 ^ w = 2 ^ (w - 1) * 2 := by rw [← pow_succ, Nat.sub_add_cancel hw]
  have hhalf : t.toNat / 2 < 2 ^ (w - 1) := Nat.div_lt_of_lt_mul (by omega)
  have htop : 2 ^ (w - 1) * carry.toNat < 2 ^ w := by
    rw [hpow]
    exact Nat.mul_lt_mul_of_pos_left carry.toNat_lt (Nat.two_pow_pos _)
  rw [rotateRight, BitVec.toNat_or, BitVec.toNat_shiftLeft, toNat_setWidth_ofBool hw, BitVec.toNat_ushiftRight,
    Nat.shiftRight_eq_div_pow, pow_one, Nat.shiftLeft_eq, Nat.mul_comm carry.toNat, Nat.mod_eq_of_lt htop, Nat.or_comm,
    ← Nat.two_pow_add_eq_or_of_lt hhalf, Nat.add_comm]

/-! ### A result written back with c, n and z (R224) -/

section
variable {s t : State} {i : Instr} {op : Byte} {g : Target}

/-- What is stored stays stored when a flag is written. -/
theorem stored_setFlag {l : Loc} {w : Width} {v : BitVec w.bits} (h : Stored s t l w v) (f : Flag) (b : Bool) :
    Stored s (t.setFlag f b) l w v := by
  simpa only [Stored, setFlag_readByte] using h

/-- No flag is where a result goes. -/
theorem putBack_setFlag {w : Width} {r : BitVec w.bits} (h : PutBack s t g w r) (f : Flag) (b : Bool) :
    PutBack s (t.setFlag f b) g w r := by
  cases g with
  | acc => exact h
  | mem m =>
    obtain ⟨hc, hstored⟩ := h
    exact ⟨hc, stored_setFlag hstored f b⟩

/-- What an outcome of a shift leaves of P. -/
theorem flagsKept_setShiftFlags {w : Nat} (ht : ∀ f, t.flag f = s.flag f) (o : ShiftOutcome w) (len : Nat) :
    FlagsKept s ((t.setShiftFlags o).advance len) [.n, .z, .c] := by
  intro f hf
  obtain ⟨hn, hz, hc⟩ : f ≠ .n ∧ f ≠ .z ∧ f ≠ .c := by simpa using hf
  rw [advance_flag, setShiftFlags_flag, if_neg hz, if_neg hn, if_neg hc, ht]

theorem shiftTarget_flag_c (s : State) (w : Width) (g : Target) (o : ShiftOutcome w.bits) :
    (s.shiftTarget w g o).flag .c = o.carry := by
  simp [State.shiftTarget]

/-- A shift or rotate with any outcome: c is written before n and z, and none of them is where the result goes. -/
theorem modifies_of_shiftTarget {o : ShiftOutcome s.wA.bits}
    {rel : (w : Width) → (operand result : Nat) → (carry carryOut : Bool) → Prop} (hop : HasOpcode s i op g.length)
    (hexec : exec i s = .next (s.shiftTarget s.wA g o))
    (hrel : rel s.wA (g.read s s.wA).toNat o.value.toNat (s.flag .c) o.carry) :
    Modifies s i op g [.n, .z, .c] rel := by
  have hput := putBack_setFlag (putBack_targetWrite s g s.wA o.value) .c o.carry
  refine ⟨hop, _, o.value, hexec, ?_, by rwa [shiftTarget_flag_c], putBack_setNZ_advance hput o.value _,
    showsNZ_setNZ _ _ _, flagsKept_setShiftFlags (targetWrite_flag g s _ _) o _,
    pastInstr_advance (targetWrite_pc g s _ _) _⟩
  rw [State.shiftTarget, targetWrite_eq_with_c_mem]
  rfl

/-- Every form of LSR (R220). -/
theorem modifies_of_lsr (hop : HasOpcode s i op g.length)
    (hexec : exec i s = .next (s.shiftTarget s.wA g (shiftRight (g.read s s.wA)))) :
    Modifies s i op g [.n, .z, .c] (fun _ t r _ c => r = t / 2 ∧ c = decide (t % 2 = 1)) := by
  obtain ⟨hcarry, -, -, -⟩ := shift_carries (g.read s s.wA) (s.flag .c)
  obtain ⟨hvalue, -⟩ := shift_values (g.read s s.wA)
  exact modifies_of_shiftTarget hop hexec ⟨hvalue, hcarry⟩

/-- Every form of ASL (R221). -/
theorem modifies_of_asl (hop : HasOpcode s i op g.length)
    (hexec : exec i s = .next (s.shiftTarget s.wA g (shiftLeft (g.read s s.wA)))) :
    Modifies s i op g [.n, .z, .c]
      (fun w t r _ c => r = 2 * t % 2 ^ w.bits ∧ c = decide (2 ^ (w.bits - 1) ≤ t)) := by
  obtain ⟨-, -, hcarry, -⟩ := shift_carries (g.read s s.wA) (s.flag .c)
  obtain ⟨-, hvalue⟩ := shift_values (g.read s s.wA)
  exact modifies_of_shiftTarget hop hexec ⟨hvalue, hcarry⟩

/-- Every form of ROL (R222). -/
theorem modifies_of_rol (hop : HasOpcode s i op g.length)
    (hexec : exec i s = .next (s.shiftTarget s.wA g (rotateLeft (g.read s s.wA) (s.flag .c)))) :
    Modifies s i op g [.n, .z, .c]
      (fun w t r old c => r = (2 * t + old.toNat) % 2 ^ w.bits ∧ c = decide (2 ^ (w.bits - 1) ≤ t)) := by
  obtain ⟨-, -, -, hcarry⟩ := shift_carries (g.read s s.wA) (s.flag .c)
  exact modifies_of_shiftTarget hop hexec ⟨rotateLeft_value (Width.bits_pos s.wA) _ _, hcarry⟩

/-- Every form of ROR (R223). -/
theorem modifies_of_ror (hop : HasOpcode s i op g.length)
    (hexec : exec i s = .next (s.shiftTarget s.wA g (rotateRight (g.read s s.wA) (s.flag .c)))) :
    Modifies s i op g [.n, .z, .c]
      (fun w t r old c => r = t / 2 + 2 ^ (w.bits - 1) * old.toNat ∧ c = decide (t % 2 = 1)) := by
  obtain ⟨-, hcarry, -, -⟩ := shift_carries (g.read s s.wA) (s.flag .c)
  exact modifies_of_shiftTarget hop hexec ⟨rotateRight_value (Width.bits_pos s.wA) _ _, hcarry⟩

end

/-! ### The obligation -/

/-- Settles O36: every form is `shiftTarget` of its own target, with the outcome of its instruction. -/
theorem shiftsAndRotates : Obligations.ShiftsAndRotates := by
  unfold Obligations.ShiftsAndRotates
  intro s dp addr
  iterate 5 refine ⟨modifies_of_lsr ⟨rfl, rfl⟩ rfl, ?_⟩
  iterate 5 refine ⟨modifies_of_asl ⟨rfl, rfl⟩ rfl, ?_⟩
  iterate 5 refine ⟨modifies_of_rol ⟨rfl, rfl⟩ rfl, ?_⟩
  iterate 4 refine ⟨modifies_of_ror ⟨rfl, rfl⟩ rfl, ?_⟩
  exact modifies_of_ror ⟨rfl, rfl⟩ rfl

end Sys2Proof.Proofs
end

section
/-! The stack, for the instructions that push and pull (R29, R311): what pushing a list of bytes stores, where S stands
after it, and what a pull reads from the slots of a push. -/

namespace Sys2Proof.Proofs

open Machine Claims

/-! ### Pushing a list of bytes (R29, R311) -/

/-- The state after some bytes are pushed, the first of them first. Irreducible, so that states
after a push are compared by the lemmas below and not by running the pushes field by field. -/
@[irreducible] def pushBytes (s : State) (r : StackRule) (bytes : List Byte) : State :=
  bytes.foldl (fun t v => t.push8 r v) s

theorem pushBytes_nil (s : State) (r : StackRule) : pushBytes s r [] = s := by
  rw [pushBytes, List.foldl_nil]

theorem pushBytes_append_singleton (s : State) (r : StackRule) (bytes : List Byte) (v : Byte) :
    pushBytes s r (bytes ++ [v]) = (pushBytes s r bytes).push8 r v := by
  rw [pushBytes, pushBytes, List.foldl_concat]

/-- The two bytes of a word, high byte first (R29). -/
theorem pushBytes_word (s : State) (r : StackRule) (v : Word) : pushBytes s r [hi v, lo v] = s.push16 r v := by
  rw [pushBytes]
  rfl

/-- A byte and then a word, as JSL pushes them. -/
theorem pushBytes_byte_word (s : State) (r : StackRule) (b : Byte) (v : Word) :
    pushBytes s r [b, hi v, lo v] = (s.push8 r b).push16 r v := by
  rw [pushBytes]
  rfl

theorem pushBytes_eq_with_sp_mem (s : State) (r : StackRule) (bytes : List Byte) :
    pushBytes s r bytes = { s with sp := (pushBytes s r bytes).sp, mem := (pushBytes s r bytes).mem } := by
  induction bytes using List.reverseRecOn with
  | nil => rw [pushBytes_nil]
  | append_singleton bytes v ih =>
    rw [pushBytes_append_singleton, ih]
    rfl

section
variable (s : State) (r : StackRule) (bytes : List Byte)

@[simp] theorem pushBytes_e : (pushBytes s r bytes).e = s.e := by rw [pushBytes_eq_with_sp_mem]

@[simp] theorem pushBytes_pbr : (pushBytes s r bytes).pbr = s.pbr := by rw [pushBytes_eq_with_sp_mem]

@[simp] theorem pushBytes_kindAt (a : Addr) : (pushBytes s r bytes).kindAt a = s.kindAt a := by
  rw [pushBytes_eq_with_sp_mem]
  rfl

theorem pushBytes_sp : (pushBytes s r bytes).sp = s.stackBelow r bytes.length := by
  induction bytes using List.reverseRecOn with
  | nil => rw [pushBytes_nil, List.length_nil, stackBelow_zero]
  | append_singleton bytes v ih =>
    rw [pushBytes_append_singleton, List.length_append]
    exact push8_below ih (pushBytes_e s r bytes) v

end

/-- The slots of one push stand at different addresses. -/
theorem pushSlot_ne (s : State) (r : StackRule) {j k : Nat} (hj : j < k) (hk : k < 8) :
    pushSlot s r j ≠ pushSlot s r k := fun h => stackBelow_ne s r hj hk (bankAddr_inj h).2

/-- Up to eight pushed bytes stand in their slots, and no other byte changes. -/
theorem storedBytes_pushBytes (s : State) (r : StackRule) (bytes : List Byte) (hlen : bytes.length ≤ 8) :
    StoredBytes s (pushBytes s r bytes) (bytes.mapIdx fun k v => (pushSlot s r k, v)) := by
  induction bytes using List.reverseRecOn with
  | nil => exact ⟨nofun, fun _ _ _ => by rw [pushBytes_nil]⟩
  | append_singleton bytes v ih =>
    rw [List.length_append, List.length_singleton] at hlen
    obtain ⟨hstored, hkept⟩ := ih (by omega)
    have hread (use : Access) (a : Addr) : (pushBytes s r (bytes ++ [v])).readByte use a =
        if a = pushSlot s r bytes.length ∧ s.kindAt (pushSlot s r bytes.length) = .ram then v
        else (pushBytes s r bytes).readByte use a := by
      rw [pushBytes_append_singleton, push8_reads, pushBytes_kindAt, pushBytes_sp]
      rfl
    rw [List.mapIdx_concat]
    constructor
    · intro q hq hram use
      rw [hread]
      obtain hq | hq := List.mem_append.mp hq
      · obtain ⟨j, hj, rfl⟩ := List.mem_mapIdx.mp hq
        rw [if_neg fun h => pushSlot_ne s r hj (by omega) h.1, hstored _ hq hram]
      · rw [List.mem_singleton.mp hq] at hram ⊢
        rw [if_pos ⟨rfl, hram⟩]
    · intro a ha use
      rw [hread, if_neg fun h => ha _ (List.mem_append_right _ (List.mem_singleton_self _)) h.1]
      exact hkept a (fun q hq => ha q (List.mem_append_left _ hq)) use

/-- `t` is `s` with the memory that a push leaves, and with any S, PC and PBR: what a call answers. -/
def Pushed (s t : State) (r : StackRule) (bytes : List Byte) : Prop :=
  t = { s with sp := t.sp, mem := (pushBytes s r bytes).mem, pc := t.pc, pbr := t.pbr }

theorem pushed_with (s : State) (r : StackRule) (bytes : List Byte) (sp pc : Word) (pbr : Byte) :
    Pushed s { s with sp := sp, mem := (pushBytes s r bytes).mem, pc := pc, pbr := pbr } r bytes := rfl

theorem pushed_jump (s : State) (r : StackRule) (bytes : List Byte) (target : Word) :
    Pushed s ((pushBytes s r bytes).jump target) r bytes := by
  rw [Pushed, pushBytes_eq_with_sp_mem]
  rfl

theorem pushed_jumpLong (s : State) (r : StackRule) (bytes : List Byte) (target : Addr) :
    Pushed s ((pushBytes s r bytes).jumpLong target) r bytes := by
  rw [Pushed, pushBytes_eq_with_sp_mem]
  rfl

section
variable {s t : State} {r : StackRule} {bytes : List Byte}

theorem readByte_of_pushed (h : Pushed s t r bytes) (use : Access) (a : Addr) :
    t.readByte use a = (pushBytes s r bytes).readByte use a := by
  rw [h, pushBytes_eq_with_sp_mem]
  rfl

theorem wordAt_of_pushed (h : Pushed s t r bytes) (bank : Byte) (o : Word) :
    wordAt t bank o = wordAt (pushBytes s r bytes) bank o := by
  simp only [wordAt, readByte_of_pushed h]

/-- What a push stored is stored whatever S, PC and PBR become. -/
theorem storedBytes_of_pushed (h : Pushed s t r bytes) (hlen : bytes.length ≤ 8) :
    StoredBytes s t (bytes.mapIdx fun k v => (pushSlot s r k, v)) := by
  simpa only [StoredBytes, readByte_of_pushed h] using storedBytes_pushBytes s r bytes hlen

end

/-- In native mode both rules push alike (R29). -/
theorem pushBytes_native {s : State} (he : s.e = false) (r : StackRule) (bytes : List Byte) :
    pushBytes s r bytes = pushBytes s .page bytes := by
  induction bytes using List.reverseRecOn with
  | nil => rw [pushBytes_nil, pushBytes_nil]
  | append_singleton bytes v ih =>
    rw [pushBytes_append_singleton, pushBytes_append_singleton, ih, State.push8, State.push8,
      moveStack_native, moveStack_native] <;>
      exact (pushBytes_e s .page bytes).trans he

/-! ### Where S stands -/

theorem lo_ofNat (k : Nat) : lo (BitVec.ofNat 16 k) = BitVec.ofNat 8 k := by
  apply BitVec.eq_of_toNat_eq
  simp only [toNat_lo, BitVec.toNat_ofNat]
  omega

theorem lo_sub (a b : Word) : lo (a - b) = lo a - lo b := by
  have h := lo_add (a - b) b
  rw [BitVec.sub_add_cancel] at h
  rw [h, BitVec.add_sub_cancel]

theorem add_ofInt_neg {w : Nat} (v : BitVec w) (k : Nat) : v + BitVec.ofInt w (-k) = v - BitVec.ofNat w k := by
  rw [BitVec.ofInt_neg, BitVec.ofInt_natCast, BitVec.sub_eq_add_neg]

theorem stackBelow_page (s : State) (k : Nat) : s.stackBelow .page k = pageSp s (-k) := by
  simp [State.stackBelow, pageSp, add_ofInt_neg]

theorem stackAbove_page (s : State) (k : Nat) : s.stackAbove .page k = pageSp s k := by
  simp [State.stackAbove, pageSp]

/-- SH forced at the end of a push by the free rule (R311). -/
theorem restoreStackPage_of_pushed {s t : State} {bytes : List Byte} (h : Pushed s t .free bytes)
    (hsp : t.sp = s.stackBelow .free bytes.length) {k : Int} (hk : -(bytes.length : Int) = k) :
    t.restoreStackPage = { s with
      sp := freeSp s k, mem := (pushBytes s .free bytes).mem, pc := t.pc, pbr := t.pbr } := by
  have he : t.e = s.e := by rw [h]
  have hfree : t.restoreStackPage.sp = freeSp s k := by
    simp [hsp, he, State.stackBelow, freeSp, lo_sub, lo_ofNat, ← hk, add_ofInt_neg]
  have hstate : t.restoreStackPage = { t with sp := t.restoreStackPage.sp } := rfl
  rw [hstate, hfree, h]

/-- SH forced at the end of a pull by the free rule (R311). -/
theorem restoreStackPage_sp_above {s t : State} {k : Nat} (he : t.e = s.e) (hsp : t.sp = s.stackAbove .free k) :
    t.restoreStackPage.sp = freeSp s k := by
  simp [hsp, he, State.stackAbove, freeSp, lo_add, lo_ofNat]

theorem stackBelow_free_native {s : State} (he : s.e = false) (k : Nat) : s.stackBelow .free k = freeSp s (-k) := by
  simp [State.stackBelow, freeSp, he, add_ofInt_neg]

theorem stackAbove_free_native {s : State} (he : s.e = false) (k : Nat) : s.stackAbove .free k = freeSp s k := by
  simp [State.stackAbove, freeSp, he]

/-! ### Pulling what was pushed -/

/-- Pulls walk back over the slots of the pushes before them. -/
theorem stackAbove_of_stackBelow {s t : State} {r : StackRule} (he : t.e = s.e) {j k : Nat}
    (hsp : t.sp = s.stackBelow r (j + k)) : t.stackAbove r k = s.stackBelow r j := by
  simp only [State.stackAbove, State.stackBelow, he, hsp]
  split
  · rw [hi_joinWord, lo_joinWord, BitVec.ofNat_add]
    congr 1
    bv_omega
  · rw [BitVec.ofNat_add]
    bv_omega

/-- The byte in slot `j` of a push, pulled back as the `k`-th from a state in which S stands below all of them. -/
theorem readByte_pullSlot_of_pushed {s t : State} {r : StackRule} {bytes : List Byte} (h : Pushed s t r bytes)
    (hsp : t.sp = s.stackBelow r bytes.length) (hlen : bytes.length ≤ 8) {j k : Nat} (hjk : bytes.length = j + k)
    {v : Byte} (hv : bytes[j]? = some v) (hram : s.kindAt (pushSlot s r j) = .ram) :
    t.readByte .stack (pullSlot t r k) = v := by
  have he : t.e = s.e := by rw [h]
  have hslot : pullSlot t r k = pushSlot s r j := congrArg bank0 (stackAbove_of_stackBelow he (by rw [hsp, hjk]))
  obtain ⟨hstored, -⟩ := storedBytes_of_pushed h hlen
  obtain ⟨hj, rfl⟩ := List.getElem?_eq_some_iff.mp hv
  rw [hslot]
  exact hstored _ (List.mem_mapIdx.mpr ⟨j, hj, rfl⟩) hram .stack

end Sys2Proof.Proofs
end

section
/-! Branches, jumps, calls and returns (45_branch_jump_call.md): the two targets of a branch as numbers, and one equation
for each call and each return. -/

namespace Sys2Proof.Proofs

open Machine Claims

/-! ### Branches (R230 to R240) -/

theorem toNat_sext16 (disp : Byte) : ((sext16 disp).toNat : Int) = disp.toInt % 65536 := by
  rw [sext16, BitVec.signExtend, BitVec.toNat_ofInt]
  omega

/-- Every branch: the two targets as numbers, inside the bank. -/
theorem branches_of_branchIf {s : State} {i : Instr} {op : Byte} {cond : Bool} {disp : Byte}
    (hop : HasOpcode s i op 2) (hexec : exec i s = .next (s.branchIf cond disp)) : Branches s i op cond disp := by
  refine ⟨hop, _, hexec, rfl, ?_⟩
  have hdisp := toNat_sext16 disp
  cases cond with
  | false =>
    have hpc : (s.branchIf false disp).pc.toNat = (s.pc.toNat + 2) % 65536 := BitVec.toNat_add s.pc 2#16
    rw [hpc]
    simp
  | true =>
    have hpc : (s.branchIf true disp).pc.toNat = ((s.pc.toNat + 2) % 65536 + (sext16 disp).toNat) % 65536 := by
      rw [State.branchIf, jump_pc, if_pos rfl, State.nearTarget, BitVec.toNat_add, State.pcNext, BitVec.toNat_add]
      rfl
    rw [hpc, if_pos rfl]
    omega

/-! ### Calls and returns (R246 to R250) -/

/-- JSR addr pushes the address of its last byte. -/
theorem exec_jsrAddr (s : State) (addr : Word) : exec (.jsrAddr addr) s = .next { s with
    sp := s.stackBelow .page 2
    mem := (pushBytes s .page [hi (s.pc + 2#16), lo (s.pc + 2#16)]).mem
    pc := addr } := by
  have hexec : exec (.jsrAddr addr) s = .next ((s.push16 .page (s.pc + 2#16)).jump addr) := rfl
  rw [hexec, ← pushBytes_word, pushBytes_eq_with_sp_mem, pushBytes_sp]
  rfl

/-- JSL pushes PBR and the address of its last byte, and forces SH. -/
theorem exec_jsl (s : State) (long : Addr) : exec (.jsl long) s = .next { s with
    sp := freeSp s (-3)
    mem := (pushBytes s .free [s.pbr, hi (s.pc + 3#16), lo (s.pc + 3#16)]).mem
    pc := addrOffset long
    pbr := addrBank long } := by
  have hexec : exec (.jsl long) s =
      .next (((s.push8 .free s.pbr).push16 .free (s.pc + 3#16)).jumpLong long).restoreStackPage := rfl
  rw [hexec, ← pushBytes_byte_word, restoreStackPage_of_pushed (pushed_jumpLong ..)
    ((jumpLong_sp ..).trans (pushBytes_sp ..)) (k := -3) rfl, jumpLong_pc, jumpLong_pbr]

/-- JSR (addr,X) pushes the address of its last byte, reads its pointer after that, and forces SH. -/
theorem exec_jsrIndAddrX (s : State) (addr : Word) : exec (.jsrIndAddrX addr) s = .next { s with
    sp := freeSp s (-2)
    mem := (pushBytes s .free [hi (s.pc + 2#16), lo (s.pc + 2#16)]).mem
    pc := wordAt (pushBytes s .free [hi (s.pc + 2#16), lo (s.pc + 2#16)]) s.pbr (addr + s.x) } := by
  have hexec : exec (.jsrIndAddrX addr) s = .next ((s.push16 .free (s.pc + 2#16)).jump
      (wordAt (s.push16 .free (s.pc + 2#16)) s.pbr (addr + s.x))).restoreStackPage := rfl
  rw [hexec, ← pushBytes_word, restoreStackPage_of_pushed (pushed_jump ..)
    ((jump_sp ..).trans (pushBytes_sp ..)) (k := -2) rfl, jump_pc, jump_pbr, pushBytes_pbr]

/-- RTS moves S up by two and reads the return address there. -/
theorem exec_rts (s : State) : exec .rts s = .next { s with
    sp := s.stackAbove .page 2
    pc := joinWord (s.readByte .stack (pullSlot s .page 2)) (s.readByte .stack (pullSlot s .page 1)) + 1#16 } := by
  have hstate : exec .rts s =
      .next { s with sp := (s.pull16 .page).2.sp, pc := (s.pull16 .page).1 + 1#16 } := rfl
  rw [hstate, pull16_sp_above, pull16_reads]
  rfl

/-- RTL moves S up by three, reads the return address and its bank there, and forces SH. -/
theorem exec_rtl (s : State) : exec .rtl s = .next { s with
    sp := freeSp s 3
    pc := joinWord (s.readByte .stack (pullSlot s .free 2)) (s.readByte .stack (pullSlot s .free 1)) + 1#16
    pbr := s.readByte .stack (pullSlot s .free 3) } := by
  have hstate : exec .rtl s = .next { s with
      sp := ((s.pull16 .free).2.pull8 .free).2.restoreStackPage.sp
      pc := (s.pull16 .free).1 + 1#16
      pbr := ((s.pull16 .free).2.pull8 .free).1 } := rfl
  have hpulled := pull16_sp_above s .free
  have hsp : ((s.pull16 .free).2.pull8 .free).2.restoreStackPage.sp = freeSp s 3 :=
    restoreStackPage_sp_above rfl (pull8_above hpulled rfl)
  rw [hstate, hsp, pull8_reads hpulled rfl, pull16_readByte, pull16_reads]
  rfl

/-! ### A call and its return (R251) -/

theorem after_of_exec {i : Instr} {s t : State} (h : exec i s = .next t) : after i s = some t := by
  rw [after, h]

/-- RTS after a push of its return address. -/
theorem after_rts_of_pushed {s t : State} {v : Word} (h : Pushed s t .page [hi v, lo v])
    (hsp : t.sp = s.stackBelow .page 2) (hram : ∀ k, k < 2 → s.kindAt (pushSlot s .page k) = .ram) :
    after .rts t = some { t with sp := s.sp, pc := v + 1#16 } := by
  have hlow : t.readByte .stack (pullSlot t .page 1) = lo v :=
    readByte_pullSlot_of_pushed h hsp (by simp) (j := 1) rfl rfl (hram 1 (by omega))
  have hhigh : t.readByte .stack (pullSlot t .page 2) = hi v :=
    readByte_pullSlot_of_pushed h hsp (by simp) (j := 0) rfl rfl (hram 0 (by omega))
  have he : t.e = s.e := by rw [h]
  have hback : t.stackAbove .page 2 = s.sp :=
    (stackAbove_of_stackBelow (j := 0) (k := 2) he hsp).trans (stackBelow_zero s .page)
  rw [after_of_exec (exec_rts t), hback, hlow, hhigh, joinWord_hi_lo]

/-- RTL after a push of its bank and return address, in native mode, where SH is not forced. -/
theorem after_rtl_of_pushed {s t : State} {b : Byte} {v : Word} (h : Pushed s t .free [b, hi v, lo v])
    (hsp : t.sp = s.stackBelow .free 3) (hnative : s.e = false)
    (hram : ∀ k, k < 3 → s.kindAt (pushSlot s .free k) = .ram) :
    after .rtl t = some { t with sp := s.sp, pc := v + 1#16, pbr := b } := by
  have hlow : t.readByte .stack (pullSlot t .free 1) = lo v :=
    readByte_pullSlot_of_pushed h hsp (by simp) (j := 2) rfl rfl (hram 2 (by omega))
  have hhigh : t.readByte .stack (pullSlot t .free 2) = hi v :=
    readByte_pullSlot_of_pushed h hsp (by simp) (j := 1) rfl rfl (hram 1 (by omega))
  have hbank : t.readByte .stack (pullSlot t .free 3) = b :=
    readByte_pullSlot_of_pushed h hsp (by simp) (j := 0) rfl rfl (hram 0 (by omega))
  have he : t.e = s.e := by rw [h]
  have hback : freeSp t 3 = s.sp :=
    calc freeSp t 3
      _ = t.stackAbove .free 3 := (stackAbove_free_native (he.trans hnative) 3).symm
      _ = s.stackBelow .free 0 := stackAbove_of_stackBelow he hsp
      _ = s.sp := stackBelow_zero s .free
  rw [after_of_exec (exec_rtl t), hback, hlow, hhigh, hbank, joinWord_hi_lo]

/-- RTS after JSR addr. -/
theorem jsrAddr_then_rts {s : State} (addr : Word) (hram : ∀ k, k < 2 → s.kindAt (pushSlot s .page k) = .ram) :
    (after (.jsrAddr addr) s).bind (after .rts) =
      some { s with pc := s.pc + 3#16, mem := (s.push16 .page (s.pc + 2#16)).mem } := by
  rw [after_of_exec (exec_jsrAddr s addr), Option.bind_some,
    after_rts_of_pushed (pushed_with (sp := s.stackBelow .page 2) ..) rfl hram, BitVec.add_assoc, pushBytes_word]
  rfl

/-- RTL after JSL in native mode, where the free rule is the page rule. -/
theorem jsl_then_rtl {s : State} (long : Addr) (hnative : s.e = false)
    (hram : ∀ k, k < 3 → s.kindAt (pushSlot s .page k) = .ram) :
    (after (.jsl long) s).bind (after .rtl) =
      some { s with pc := s.pc + 4#16, mem := ((s.push8 .page s.pbr).push16 .page (s.pc + 3#16)).mem } := by
  have hfree (k : Nat) (hk : k < 3) : s.kindAt (pushSlot s .free k) = .ram := by
    simpa [pushSlot, hnative] using hram k hk
  rw [after_of_exec (exec_jsl s long), Option.bind_some,
    after_rtl_of_pushed (pushed_with (sp := freeSp s (-3)) ..) (stackBelow_free_native hnative 3).symm hnative hfree,
    BitVec.add_assoc, pushBytes_native hnative, pushBytes_byte_word]
  rfl

/-! ### The obligations -/

/-- Settles O37: each branch is `branchIf` of its own condition. -/
theorem relativeBranches : Obligations.RelativeBranches := by
  unfold Obligations.RelativeBranches
  intro s disp
  iterate 8 refine ⟨branches_of_branchIf ⟨rfl, rfl⟩ rfl, ?_⟩
  exact branches_of_branchIf ⟨rfl, rfl⟩ rfl

/-- Settles O38: five of the jumps compute their target as the claim writes it; JMP [addr] joins its 24 bits and takes
them apart again. -/
theorem jumps : Obligations.Jumps := by
  unfold Obligations.Jumps
  intro s addr disp long
  have hlongInd : exec (.jmpLongIndAddr addr) s = .next { s with
      pc := wordAt s 0x00#8 addr, pbr := s.readByte .pointer (bank0 (addr + 2#16)) } := by
    have hexec : exec (.jmpLongIndAddr addr) s = .next { s with
        pc := addrOffset (s.readLong0 addr), pbr := addrBank (s.readLong0 addr) } := rfl
    rw [hexec, State.readLong0, addrOffset_bankAddr, addrBank_bankAddr]
    rfl
  exact ⟨⟨⟨rfl, rfl⟩, rfl⟩, ⟨⟨rfl, rfl⟩, rfl⟩, ⟨⟨rfl, rfl⟩, rfl⟩, ⟨⟨rfl, rfl⟩, rfl⟩, ⟨⟨rfl, rfl⟩, rfl⟩,
    ⟨rfl, rfl⟩, hlongInd⟩

/-- Settles O39: S and the stored bytes are those of the pushes; JSR (addr,X) reads its pointer in the state after
them. -/
theorem calls : Obligations.Calls := by
  unfold Obligations.Calls
  intro s addr long
  refine ⟨⟨⟨rfl, rfl⟩, _, exec_jsrAddr s addr, rfl, stackBelow_page s 2, ?_⟩,
    ⟨⟨rfl, rfl⟩, _, exec_jsl s long, rfl, rfl, ?_⟩, ⟨rfl, rfl⟩, _, exec_jsrIndAddrX s addr, rfl, rfl, ?_, ?_⟩
  · exact storedBytes_of_pushed (pushed_with ..) (by simp)
  · exact storedBytes_of_pushed (pushed_with ..) (by simp)
  · exact (wordAt_of_pushed (pushed_with ..) ..).symm
  · exact storedBytes_of_pushed (pushed_with ..) (by simp)

/-- Settles O40: the states after RTS and RTL are written out in their equations. -/
theorem returns : Obligations.Returns := by
  unfold Obligations.Returns
  intro s
  refine ⟨⟨⟨rfl, rfl⟩, _, exec_rts s, ?_, rfl⟩, ⟨rfl, rfl⟩, _, exec_rtl s, rfl, rfl⟩
  rw [stackAbove_page]
  rfl

/-- Settles O41: the return reads the bytes of the call back from their slots. -/
theorem callThenReturnResumes : Obligations.CallThenReturnResumes := by
  unfold Obligations.CallThenReturnResumes
  intro s addr long _ hram
  exact ⟨jsrAddr_then_rts addr fun k hk => hram k (by omega), fun he => jsl_then_rtl long he hram⟩

end Sys2Proof.Proofs
end

section
/-! Flag instructions and transfers (46_flag_transfer.md): one rule for the flag instructions, one for each destination
of a transfer, which every instruction then meets. -/

namespace Sys2Proof.Proofs

open Machine Claims

/-! ### One rule for the flag instructions (R260 to R266) -/

theorem writesOneFlag_of_exec {s : State} {i : Instr} {op : Byte} {f : Flag} {b : Bool} (hop : HasOpcode s i op 1)
    (hexec : exec i s = .next ((s.setFlag f b).advance 1)) : WritesOneFlag s i op f b := by
  have hwritten : ((s.setFlag f b).advance 1).flag f = b := by rw [advance_flag, setFlag_flag, if_pos rfl]
  have hkept : FlagsKept s ((s.setFlag f b).advance 1) [f] := by
    intro g hg
    have hne : g ≠ f := by simpa using hg
    rw [advance_flag, setFlag_flag, if_neg hne]
  exact ⟨hop, _, hexec, rfl, hwritten, hkept, pastInstr_advance rfl 1⟩

/-! ### What a transfer writes (R267) -/

/-- n, z and PC after a transfer, whatever register it has written. -/
theorem nzAndPc_of_setNZ {s t : State} {w : Nat} (hflag : ∀ f, t.flag f = s.flag f) (hpc : t.pc = s.pc) (v : BitVec w)
    (len : Nat) : ShowsNZ ((t.setNZ v).advance len) v ∧ FlagsKept s ((t.setNZ v).advance len) [.n, .z] ∧
      PastInstr s ((t.setNZ v).advance len) len :=
  ⟨showsNZ_setNZ t v len, flagsKept_setNZ hflag v len, pastInstr_advance hpc len⟩

/-- A word cut to the width of m and written to the accumulator: its low byte beside B, or the word (R20). -/
theorem setAcc_setWidth_c (s : State) (v : Word) :
    (s.setAcc s.wA (v.setWidth s.wA.bits)).c = if s.flag .m then joinWord (hi s.c) (lo v) else v := by
  unfold State.wA
  cases s.flag .m with
  | true => exact congrArg (joinWord (hi s.c)) (setWidth8_eq_lo v)
  | false => exact BitVec.setWidth_eq v

/-- A word whose high byte is zero when x = 1 loses nothing at the width of x (R22). -/
theorem narrow_wXY_of_hi_zero {s : State} {v : Word} (h : s.flag .x = true → hi v = 0x00#8) : narrow s.wXY v = v := by
  unfold State.wXY
  cases hx : s.flag .x with
  | true => exact (narrow_w8 v).trans (zext16_lo_of_hi_zero (h hx))
  | false => exact narrow_w16 v

/-- Between X and Y a transfer truncates nothing: writing Y at the width of x writes the whole of X (R275). -/
theorem setY_regX {s : State} (hs : s.Inv) : s.setY s.wXY (s.regX s.wXY) = { s with y := s.x } :=
  congrArg (fun v : Word => { s with y := v }) (narrow_wXY_of_hi_zero fun hx => (hs.narrowIndexes hx).1)

/-- Writing X at the width of x writes the whole of Y (R279). -/
theorem setX_regY {s : State} (hs : s.Inv) : s.setX s.wXY (s.regY s.wXY) = { s with x := s.y } :=
  congrArg (fun v : Word => { s with x := v }) (narrow_wXY_of_hi_zero fun hx => (hs.narrowIndexes hx).2)

theorem exec_txy {s : State} (hs : s.Inv) :
    exec .txy s = .next (((s.setY s.wXY (s.regX s.wXY)).setNZ (s.regX s.wXY)).advance 1) := by
  rw [setY_regX hs]
  rfl

theorem exec_tyx {s : State} (hs : s.Inv) :
    exec .tyx s = .next (((s.setX s.wXY (s.regY s.wXY)).setNZ (s.regY s.wXY)).advance 1) := by
  rw [setX_regY hs]
  rfl

/-! ### The obligations -/

/-- Settles O42: each of the seven sets its one flag and moves PC on. -/
theorem flagInstructions : Obligations.FlagInstructions := by
  unfold Obligations.FlagInstructions
  intro s
  iterate 6 refine ⟨writesOneFlag_of_exec ⟨rfl, rfl⟩ rfl, ?_⟩
  exact writesOneFlag_of_exec ⟨rfl, rfl⟩ rfl

/-- Settles O43: the accumulator is written at the width of m, the index registers as by LDX and LDY; only TXY and TYX
need the invariant. -/
theorem transfersToRegisters : Obligations.TransfersToRegisters := by
  unfold Obligations.TransfersToRegisters
  intro s hs
  exact ⟨⟨⟨rfl, rfl⟩, _, rfl, rfl, setAcc_setWidth_c s s.x, nzAndPc_of_setNZ (setAcc_flag s _ _) rfl _ 1⟩,
    ⟨⟨rfl, rfl⟩, _, rfl, rfl, setAcc_setWidth_c s s.y, nzAndPc_of_setNZ (setAcc_flag s _ _) rfl _ 1⟩,
    putsInX_of_exec ⟨rfl, rfl⟩ rfl, putsInY_of_exec ⟨rfl, rfl⟩ rfl, putsInX_of_exec ⟨rfl, rfl⟩ rfl,
    putsInY_of_exec ⟨rfl, rfl⟩ (exec_txy hs), putsInX_of_exec ⟨rfl, rfl⟩ (exec_tyx hs)⟩

/-- Settles O44: TCS and TXS write S as `setStackPointer` does; the other three write 16 bits with n and z. -/
theorem transfersOfSpecialRegisters : Obligations.TransfersOfSpecialRegisters := by
  unfold Obligations.TransfersOfSpecialRegisters
  intro s
  exact ⟨⟨⟨rfl, rfl⟩, rfl⟩, ⟨⟨rfl, rfl⟩, rfl⟩,
    ⟨⟨rfl, rfl⟩, _, rfl, rfl, nzAndPc_of_setNZ (setAcc_flag s .w16 s.sp) rfl s.sp 1⟩,
    ⟨⟨rfl, rfl⟩, _, rfl, rfl, nzAndPc_of_setNZ (fun _ => rfl) rfl s.c 1⟩,
    ⟨⟨rfl, rfl⟩, _, rfl, rfl, nzAndPc_of_setNZ (setAcc_flag s .w16 s.d) rfl s.d 1⟩⟩

end Sys2Proof.Proofs
end

section
/-! Reset, the stopped and the waiting machine, and the refusal of ABORT (60_exceptions.md R340 to R344,
70_reset_and_hazards.md R380, 49_misc.md R334 to R336): read off the ways a step can go. -/

namespace Sys2Proof.Proofs

open Machine Claims

/-! ### The reset sequence (R380) -/

/-- Reset writes m, x, d and i, and keeps n, v, z and c. -/
theorem resetSequence_flag (s : State) (f : Flag) :
    s.resetSequence.flag f =
      if f = .i then true else if f = .d then false else if f = .x then true else if f = .m then true
      else s.flag f := by
  have hp : s.resetSequence.p = withFlag (withFlag (withFlag (withFlag s.p .m true) .x true) .d false) .i true := rfl
  simp only [State.flag, hp, flagOf_withFlag]

theorem flagsKept_resetSequence (s : State) : FlagsKept s s.resetSequence [.m, .x, .d, .i] := by
  intro f hf
  obtain ⟨hm, hx, hd, hmask⟩ : f ≠ .m ∧ f ≠ .x ∧ f ≠ .d ∧ f ≠ .i := by simpa using hf
  rw [resetSequence_flag, if_neg hmask, if_neg hd, if_neg hx, if_neg hm]

/-- PC after reset is the word at $00FFFC (R380). -/
theorem resetSequence_pc (s : State) : s.resetSequence.pc =
    joinWord (s.resetSequence.readByte .vector 0x00FFFD#24) (s.resetSequence.readByte .vector 0x00FFFC#24) := rfl

/-! ### The look at the inputs (R344) -/

/-- With IRQ alone asserted, i = 1 leaves no trap due (R341). -/
theorem noTrap_of_masked_irq {s : State} (hn : s.nmiPending = false)
    (hirq : s.currentInputs = { Inputs.inactive with irq := true }) (hmask : s.flag .i = true) : s.NoTrap := by
  simp [State.NoTrap, hn, hirq, hmask, Inputs.inactive]

/-- Only ABORT, seen neither in a reset nor while stopped, keeps a step from a next state (R343, R344); an instruction
never does. -/
theorem step_next_of_not_abort {s : State}
    (h : ¬(s.currentInputs.abort = true ∧ s.currentInputs.reset = false ∧ s.run ≠ .stopped)) :
    ∃ t, step s = .next t := by
  cases hreset : s.currentInputs.reset with
  | true => exact ⟨_, step_reset hreset⟩
  | false =>
    by_cases hstopped : s.run = .stopped
    · exact ⟨_, step_stopped hreset hstopped⟩
    have habort : s.currentInputs.abort = false := by
      rw [← Bool.not_eq_true]
      exact fun ha => h ⟨ha, hreset, hstopped⟩
    cases hnmi : (s.nmiPending || s.currentInputs.nmiEdge) with
    | true => exact ⟨_, step_nmi hreset hstopped habort hnmi⟩
    | false =>
      by_cases hirq : s.currentInputs.irq = true ∧ s.flag .i = false
      · exact ⟨_, step_irq hreset hstopped habort hnmi hirq.1 hirq.2⟩
      have hno : s.NoTrap := ⟨habort, hnmi, fun hq => by simpa [hq] using hirq⟩
      cases hrun : s.run with
      | stopped => exact absurd hrun hstopped
      | waiting => exact ⟨_, step_waiting hreset hrun hno⟩
      | running =>
        obtain ⟨t, hexec, -⟩ := exec_effect s.beginStep.fetchInstr s.beginStep
        exact ⟨t, (step_runs hreset hrun hno).trans hexec⟩

/-! ### The obligations -/

/-- Settles O54: both are `advance` by their length. -/
theorem noOperations : Obligations.NoOperations := by
  unfold Obligations.NoOperations
  exact fun s signature => ⟨⟨⟨rfl, rfl⟩, rfl⟩, ⟨rfl, rfl⟩, rfl⟩

/-- Settles O9: STP is written out in its arm of `exec`, and a stopped step is `beginStep`. -/
theorem stopUntilReset : Obligations.StopUntilReset := by
  unfold Obligations.StopUntilReset
  exact ⟨fun s => ⟨⟨rfl, rfl⟩, rfl⟩, fun s hstopped hreset => step_stopped hreset hstopped⟩

/-- Settles O10: a waiting step without a trap due, with IRQ asserted and without. -/
theorem waitUntilInterrupt : Obligations.WaitUntilInterrupt := by
  unfold Obligations.WaitUntilInterrupt
  refine ⟨fun s => ⟨⟨rfl, rfl⟩, rfl⟩, fun s hrun hn hinputs hmask => ?_, fun s hrun hn hinputs => ?_⟩
  · have hirq : s.currentInputs = { Inputs.inactive with irq := true } := hinputs
    rw [step_waiting (by rw [hirq]; rfl) hrun (noTrap_of_masked_irq hn hirq hmask), hirq]
    rfl
  · have hinactive : s.currentInputs = Inputs.inactive := hinputs
    rw [step_waiting (by rw [hinactive]; rfl) hrun (noTrap_of_inactive hn hinactive), hinactive]
    rfl

/-- Settles O12: with the IRQ masked no trap is due, and a running step runs its instruction. -/
theorem maskedIrqRunsInstruction : Obligations.MaskedIrqRunsInstruction := by
  unfold Obligations.MaskedIrqRunsInstruction
  intro s hrun hn hinputs hmask
  have hirq : s.currentInputs = { Inputs.inactive with irq := true } := hinputs
  exact step_runs (by rw [hirq]; rfl) hrun (noTrap_of_masked_irq hn hirq hmask)

/-- Settles O56: `step_abort` is the refusal, and in every other case there is a next state. -/
theorem onlyAbortIsRefused : Obligations.OnlyAbortIsRefused := by
  unfold Obligations.OnlyAbortIsRefused
  intro s i
  refine ⟨⟨fun hrefused => ?_, fun ⟨ha, hreset, hrun⟩ => step_abort hreset hrun ha⟩, step_next_of_not_abort⟩
  by_contra h
  obtain ⟨t, hnext⟩ := step_next_of_not_abort h
  cases hrefused.symm.trans hnext

/-- Settles O8: the step is `resetSequence` of the state whose sample is used up. -/
theorem resetStepSequence : Obligations.ResetStepSequence := by
  unfold Obligations.ResetStepSequence
  intro s hreset
  have hflag := resetSequence_flag s.beginStep
  exact ⟨_, step_reset hreset, rfl, hflag .m, hflag .x, hflag .d, hflag .i, flagsKept_resetSequence s.beginStep, rfl,
    rfl, rfl, rfl, rfl, rfl, rfl, rfl, resetSequence_pc s.beginStep, rfl, rfl, rfl, rfl, rfl⟩

end Sys2Proof.Proofs
end

section
/-! Pushes and pulls (47_blockmove_stack.md R293 to R309, R311): one equation for each way to push and to pull, the rule
for each kind of instruction, and where the free stack rule differs from the page rule. -/

namespace Sys2Proof.Proofs

open Machine Claims

/-! ### A pull in one equation (R29) -/

theorem pull8_eq_slot (s : State) (r : StackRule) :
    s.pull8 r = (s.readByte .stack (pullSlot s r 1), { s with sp := s.stackAbove r 1 }) := by
  have hsp : (s.moveStack r 1#16).sp = s.stackAbove r 1 := pull8_sp_above s r
  rw [pull8_eq, hsp]
  rfl

theorem pull16_eq_slots (s : State) (r : StackRule) :
    s.pull16 r = (joinWord (s.readByte .stack (pullSlot s r 2)) (s.readByte .stack (pullSlot s r 1)),
      { s with sp := s.stackAbove r 2 }) := by
  have hstate : (s.pull16 r).2 = { s with sp := (s.pull16 r).2.sp } := rfl
  refine Prod.ext (pull16_reads s r) ?_
  rw [hstate, pull16_sp_above]

/-- A pull at a width: the value, and S moved up inside the page (R309). -/
theorem pullReg_eq (s : State) (w : Width) :
    s.pullReg w = (pulledValue s w, { s with sp := pageSp s (bytesOf w) }) := by
  cases w with
  | w8 =>
    have h := pull8_eq_slot s .page
    rwa [stackAbove_page] at h
  | w16 =>
    have h := pull16_eq_slots s .page
    rwa [stackAbove_page] at h

/-! ### A push in one equation -/

/-- A push at a width (R309). -/
theorem pushReg_eq_pushBytes (s : State) (w : Width) (v : BitVec w.bits) :
    s.pushReg w v = pushBytes s .page (pushOrder w v) := by
  rw [pushBytes]
  cases w <;> rfl

theorem push8_eq_pushBytes (s : State) (r : StackRule) (v : Byte) : s.push8 r v = pushBytes s r [v] := by
  rw [pushBytes]
  rfl

theorem pushed_advance (s : State) (r : StackRule) (bytes : List Byte) (len : Nat) :
    Pushed s ((pushBytes s r bytes).advance len) r bytes := by
  rw [Pushed, pushBytes_eq_with_sp_mem]
  rfl

theorem pushed_pushBytes (s : State) (r : StackRule) (bytes : List Byte) : Pushed s (pushBytes s r bytes) r bytes := by
  rw [Pushed, pushBytes_eq_with_sp_mem]

/-- A 16-bit push by the free rule, with SH forced at its end in emulation mode (R311). -/
theorem pushWide_eq (s : State) (v : Word) (len : Nat) : s.pushWide v len = { s with
    sp := freeSp s (-2), mem := (pushBytes s .free [hi v, lo v]).mem, pc := s.pcNext len } := by
  rw [State.pushWide, ← pushBytes_word,
    restoreStackPage_of_pushed (pushed_pushBytes ..) (pushBytes_sp s .free [hi v, lo v]) (k := -2) rfl,
    pushBytes_eq_with_sp_mem]
  rfl

/-! ### One rule for each kind of push -/

section
variable {s : State} {i : Instr} {op : Byte}

/-- Every push of a word by the free rule. -/
theorem pushesFree_of_pushWide {len : Nat} {v : Word} (hop : HasOpcode s i op len)
    (hexec : exec i s = .next (s.pushWide v len)) : PushesFree s i op len [hi v, lo v] := by
  rw [pushWide_eq] at hexec
  exact ⟨hop, _, hexec, rfl, storedBytes_of_pushed (pushed_with ..) (by simp), rfl, pastInstr_advance rfl len⟩

/-- Every push by the page rule. -/
theorem pushesPage_of_pushBytes {bytes : List Byte} (hlen : bytes.length ≤ 8) (hop : HasOpcode s i op 1)
    (hexec : exec i s = .next ((pushBytes s .page bytes).advance 1)) : PushesPage s i op 1 bytes := by
  have hpushed := pushed_advance s .page bytes 1
  have hpc : (pushBytes s .page bytes).pc = s.pc := by rw [pushBytes_eq_with_sp_mem]
  refine ⟨hop, _, hexec, ?_, storedBytes_of_pushed hpushed hlen, ?_, pastInstr_advance hpc 1⟩
  · rw [pushBytes_eq_with_sp_mem]
    rfl
  · rw [advance_sp, pushBytes_sp, stackBelow_page]

theorem pushesPage_of_push8 {v : Byte} (hop : HasOpcode s i op 1)
    (hexec : exec i s = .next ((s.push8 .page v).advance 1)) : PushesPage s i op 1 [v] := by
  rw [push8_eq_pushBytes] at hexec
  exact pushesPage_of_pushBytes (by simp) hop hexec

theorem length_pushOrder_le (w : Width) (v : BitVec w.bits) : (pushOrder w v).length ≤ 8 := by
  cases w <;> simp [pushOrder]

theorem pushesPage_of_pushAtWidth {w : Width} {v : BitVec w.bits} (hop : HasOpcode s i op 1)
    (hexec : exec i s = .next (s.pushAtWidth w v)) : PushesPage s i op 1 (pushOrder w v) := by
  rw [State.pushAtWidth, pushReg_eq_pushBytes] at hexec
  exact pushesPage_of_pushBytes (length_pushOrder_le w v) hop hexec

end

/-- Emulation mode holds m and x at 1, so setting them changes nothing (R27). -/
theorem or_widths_eq_self {s : State} (hs : s.Inv) (he : s.e = true) : s.p ||| 0x30#8 = s.p := by
  obtain ⟨hm, hx⟩ := hs.emulationWidths he
  refine flags_ext fun f => ?_
  rw [flagOf_or_widths]
  cases f with
  | m => simpa [State.flag] using hm.symm
  | x => simpa [State.flag] using hx.symm
  | _ => simp

/-- The image that PHP pushes is P as it is (R296). -/
theorem statusImage_eq {s : State} (hs : s.Inv) : s.statusImage = s.p := by
  unfold State.statusImage
  split
  next he => exact or_widths_eq_self hs he
  next => rfl

/-! ### The pulls -/

/-! PLA, PLX and PLY at a width that is the one in force: the value pulled goes to the register, with n and z. -/

theorem exec_pla {s : State} {w : Width} (hw : s.wA = w) : exec .pla s = .next
    (((State.setAcc { s with sp := pageSp s (bytesOf w) } w (pulledValue s w)).setNZ (pulledValue s w)).advance 1) := by
  have hexec : exec .pla s =
      .next ((((s.pullReg s.wA).2.setAcc s.wA (s.pullReg s.wA).1).setNZ (s.pullReg s.wA).1).advance 1) := rfl
  rw [hexec, hw, pullReg_eq]

theorem exec_plx {s : State} {w : Width} (hw : s.wXY = w) : exec .plx s = .next
    (((State.setX { s with sp := pageSp s (bytesOf w) } w (pulledValue s w)).setNZ (pulledValue s w)).advance 1) := by
  have hexec : exec .plx s =
      .next ((((s.pullReg s.wXY).2.setX s.wXY (s.pullReg s.wXY).1).setNZ (s.pullReg s.wXY).1).advance 1) := rfl
  rw [hexec, hw, pullReg_eq]

theorem exec_ply {s : State} {w : Width} (hw : s.wXY = w) : exec .ply s = .next
    (((State.setY { s with sp := pageSp s (bytesOf w) } w (pulledValue s w)).setNZ (pulledValue s w)).advance 1) := by
  have hexec : exec .ply s =
      .next ((((s.pullReg s.wXY).2.setY s.wXY (s.pullReg s.wXY).1).setNZ (s.pullReg s.wXY).1).advance 1) := rfl
  rw [hexec, hw, pullReg_eq]

/-- PLD pulls by the free rule and forces SH. -/
theorem exec_pld (s : State) : exec .pld s = .next ((State.setNZ { s with
    sp := freeSp s 2
    d := joinWord (s.readByte .stack (pullSlot s .free 2)) (s.readByte .stack (pullSlot s .free 1)) }
    (joinWord (s.readByte .stack (pullSlot s .free 2)) (s.readByte .stack (pullSlot s .free 1)))).advance 1) := by
  have hexec : exec .pld s = .next ((State.setNZ { s with
      sp := (s.pull16 .free).2.restoreStackPage.sp, d := (s.pull16 .free).1 } (s.pull16 .free).1).advance 1) := rfl
  have hsp : (s.pull16 .free).2.restoreStackPage.sp = freeSp s 2 :=
    restoreStackPage_sp_above rfl (pull16_sp_above s .free)
  rw [hexec, hsp, pull16_eq_slots]

/-- PLB pulls by the free rule and forces SH. -/
theorem exec_plb (s : State) : exec .plb s = .next ((State.setNZ { s with
    sp := freeSp s 1, dbr := s.readByte .stack (pullSlot s .free 1) }
    (s.readByte .stack (pullSlot s .free 1))).advance 1) := by
  have hexec : exec .plb s = .next ((State.setNZ { s with
      sp := (s.pull8 .free).2.restoreStackPage.sp, dbr := (s.pull8 .free).1 } (s.pull8 .free).1).advance 1) := rfl
  have hsp : (s.pull8 .free).2.restoreStackPage.sp = freeSp s 1 :=
    restoreStackPage_sp_above rfl (pull8_sp_above s .free)
  rw [hexec, hsp, pull8_eq_slot]

/-! ### The free rule and the page rule (R311) -/

/-- S stands in page 1, as it does in every state of emulation mode (R27). -/
def OnStackPage (s : State) : Prop := s.e = true ∧ hi s.sp = 0x01#8

section
variable {s : State} (hs : OnStackPage s)
include hs

theorem onStackPage_moveStack (k : Word) : OnStackPage (s.moveStack .page k) := by
  obtain ⟨he, hpage⟩ := hs
  exact ⟨he, by rw [moveStack_page_hi s k he, hpage]⟩

theorem lo_moveStack_page (k : Word) : lo (s.moveStack .page k).sp = lo s.sp + lo k := by
  obtain ⟨he, -⟩ := hs
  simp [he, lo_add]

/-- A move that stays in page 1 is the same by either rule. -/
theorem moveStack_free_eq_page {k : Word} (hstay : hi (s.sp + k) = 0x01#8) :
    s.moveStack .free k = s.moveStack .page k := by
  obtain ⟨-, hpage⟩ := hs
  have hsp : (s.moveStack .free k).sp = (s.moveStack .page k).sp := by
    have hjoin := joinWord_hi_lo (s.sp + k)
    rw [hstay] at hjoin
    simp [hpage, hjoin]
  have hstate (r : StackRule) : s.moveStack r k = { s with sp := (s.moveStack r k).sp } := rfl
  rw [hstate .free, hsp, ← hstate]

/-- Where S stands in page 1 there is nothing to force. -/
theorem restoreStackPage_of_onStackPage : s.restoreStackPage = s := by
  obtain ⟨he, hpage⟩ := hs
  have hsp : s.restoreStackPage.sp = s.sp := by rw [restoreStackPage_sp, if_pos he, ← hpage, joinWord_hi_lo]
  have hstate : s.restoreStackPage = { s with sp := s.restoreStackPage.sp } := rfl
  rw [hstate, hsp]

theorem onStackPage_push8 (v : Byte) : OnStackPage (s.push8 .page v) :=
  onStackPage_moveStack (s := s.writeByte (bank0 s.sp) v) hs _

/-- A push with room below it in the page is the same by either rule, and leaves one byte less room. -/
theorem push8_free_eq_page {room : Nat} (hroom : room + 1 ≤ (lo s.sp).toNat) (v : Byte) :
    s.push8 .free v = s.push8 .page v ∧ room ≤ (lo (s.push8 .page v).sp).toNat := by
  have hstay : hi (s.sp + 0xFFFF#16) = 0x01#8 := by
    obtain ⟨-, hpage⟩ := hs
    rw [← BitVec.toNat_inj, toNat_hi] at hpage ⊢
    rw [toNat_lo] at hroom
    simp at hpage ⊢
    omega
  have hlo : lo (s.push8 .page v).sp = lo s.sp + 0xFF#8 := lo_moveStack_page hs 0xFFFF#16
  refine ⟨moveStack_free_eq_page (s := s.writeByte (bank0 s.sp) v) hs hstay, ?_⟩
  rw [hlo, BitVec.toNat_add]
  simp
  omega

/-- The last push of an instruction may leave the page: SH is forced after it. -/
theorem restoreStackPage_push8_free (v : Byte) : (s.push8 .free v).restoreStackPage = s.push8 .page v := by
  obtain ⟨he, hpage⟩ := hs
  have hsp : (s.push8 .free v).restoreStackPage.sp = (s.push8 .page v).sp := by simp [he, hpage]
  have hstate : (s.push8 .free v).restoreStackPage =
    { s.push8 .page v with sp := (s.push8 .free v).restoreStackPage.sp } := rfl
  rw [hstate, hsp]

theorem restoreStackPage_push16_free (hroom : 1 ≤ (lo s.sp).toNat) (v : Word) :
    (s.push16 .free v).restoreStackPage = s.push16 .page v := by
  obtain ⟨hsame, -⟩ := push8_free_eq_page hs (room := 0) hroom (hi v)
  rw [State.push16, State.push16, hsame, restoreStackPage_push8_free (onStackPage_push8 hs _)]

theorem onStackPage_pull8 : OnStackPage (s.pull8 .page).2 := onStackPage_moveStack hs _

/-- A pull with room above it in the page is the same by either rule, and leaves one byte less room. -/
theorem pull8_free_eq_page {room : Nat} (hroom : (lo s.sp).toNat + (room + 1) ≤ 0xFF) :
    s.pull8 .free = s.pull8 .page ∧ (lo (s.pull8 .page).2.sp).toNat + room ≤ 0xFF := by
  have hstay : hi (s.sp + 1#16) = 0x01#8 := by
    obtain ⟨-, hpage⟩ := hs
    rw [← BitVec.toNat_inj, toNat_hi] at hpage ⊢
    rw [toNat_lo] at hroom
    simp at hpage ⊢
    omega
  have hlo : lo (s.pull8 .page).2.sp = lo s.sp + 1#8 := lo_moveStack_page hs 1#16
  constructor
  · rw [State.pull8, State.pull8, moveStack_free_eq_page hs hstay]
  · rw [hlo, BitVec.toNat_add]
    simp
    omega

theorem pull16_free_eq_page {room : Nat} (hroom : (lo s.sp).toNat + (room + 2) ≤ 0xFF) :
    s.pull16 .free = s.pull16 .page ∧ (lo (s.pull16 .page).2.sp).toNat + room ≤ 0xFF := by
  obtain ⟨hfirst, hless⟩ := pull8_free_eq_page hs (room := room + 1) hroom
  obtain ⟨hsecond, hleast⟩ := pull8_free_eq_page (onStackPage_pull8 hs) hless
  refine ⟨?_, hleast⟩
  rw [State.pull16, State.pull16, hfirst, hsecond]

theorem onStackPage_pull16 : OnStackPage (s.pull16 .page).2 := onStackPage_pull8 (onStackPage_pull8 hs)

end

/-! ### The obligations -/

/-- Settles O47: each pushes its word by the free rule; PEI's word is joined and taken apart again. -/
theorem effectivePushes : Obligations.EffectivePushes := by
  unfold Obligations.EffectivePushes
  intro s dp const disp
  have hpei : PushesFree s (.pei dp) 0xD4#8 2 [hi (s.readWord0 .data (s.directOffset dp)),
      lo (s.readWord0 .data (s.directOffset dp))] := pushesFree_of_pushWide ⟨rfl, rfl⟩ rfl
  rw [State.readWord0, hi_joinWord, lo_joinWord] at hpei
  exact ⟨pushesFree_of_pushWide ⟨rfl, rfl⟩ rfl, hpei, pushesFree_of_pushWide ⟨rfl, rfl⟩ rfl,
    pushesFree_of_pushWide ⟨rfl, rfl⟩ rfl⟩

/-- Settles O48: one byte, or the bytes of a register at its width, by the page rule. -/
theorem registerPushes : Obligations.RegisterPushes := by
  unfold Obligations.RegisterPushes
  intro s hs
  have hphp : PushesPage s .php 0x08#8 1 [s.statusImage] := pushesPage_of_push8 ⟨rfl, rfl⟩ rfl
  rw [statusImage_eq hs] at hphp
  exact ⟨hphp, pushesPage_of_pushAtWidth ⟨rfl, rfl⟩ rfl, pushesPage_of_push8 ⟨rfl, rfl⟩ rfl,
    pushesPage_of_pushAtWidth ⟨rfl, rfl⟩ rfl, pushesPage_of_push8 ⟨rfl, rfl⟩ rfl,
    pushesPage_of_pushAtWidth ⟨rfl, rfl⟩ rfl⟩

/-- Settles O49: the states after the pulls are written out in their equations. -/
theorem registerPulls : Obligations.RegisterPulls := by
  unfold Obligations.RegisterPulls
  intro s
  refine ⟨⟨⟨rfl, rfl⟩, _, exec_pla rfl, rfl, setAcc_acc _ s.wA _, fun hm => hi_setAcc_of_w8 _ (wA_eq_w8 hm) _,
      nzAndPc_of_setNZ (setAcc_flag _ _ _) rfl _ 1⟩,
    ⟨⟨rfl, rfl⟩, _, exec_plx rfl, rfl, toNat_setWidth_index _ _, nzAndPc_of_setNZ (setX_flag _ _ _) rfl _ 1⟩,
    ⟨⟨rfl, rfl⟩, _, exec_ply rfl, rfl, toNat_setWidth_index _ _, nzAndPc_of_setNZ (setY_flag _ _ _) rfl _ 1⟩,
    ⟨⟨rfl, rfl⟩, _, exec_pld s, rfl, rfl, nzAndPc_of_setNZ (fun _ => rfl) rfl _ 1⟩,
    ⟨⟨rfl, rfl⟩, _, exec_plb s, rfl, nzAndPc_of_setNZ (fun _ => rfl) rfl _ 1⟩⟩

/-- Settles O51: every move but the last of a push stays in the page where SL leaves room, and a pull reads after each
of its moves. -/
theorem stackCornerOnlyAtPageEdge : Obligations.StackCornerOnlyAtPageEdge := by
  unfold Obligations.StackCornerOnlyAtPageEdge
  intro s b v he hpage
  have hs : OnStackPage s := ⟨he, hpage⟩
  refine ⟨fun hsl => restoreStackPage_push16_free hs hsl v, fun hsl => ?_, fun hsl => ?_, fun hsl => ?_,
    fun hsl => ?_⟩
  · obtain ⟨hfirst, hroom⟩ := push8_free_eq_page hs (room := 1) hsl b
    rw [hfirst, restoreStackPage_push16_free (onStackPage_push8 hs b) hroom]
  · obtain ⟨hsame, -⟩ := pull8_free_eq_page hs (room := 0) (by omega)
    rw [hsame]
    exact ⟨rfl, restoreStackPage_of_onStackPage (onStackPage_pull8 hs)⟩
  · obtain ⟨hsame, -⟩ := pull16_free_eq_page hs (room := 0) (by omega)
    rw [hsame]
    exact ⟨rfl, restoreStackPage_of_onStackPage (onStackPage_pull16 hs)⟩
  · obtain ⟨hword, hroom⟩ := pull16_free_eq_page hs (room := 1) (by omega)
    obtain ⟨hbyte, -⟩ := pull8_free_eq_page (onStackPage_pull16 hs) (room := 0) hroom
    rw [hword, hbyte]
    exact ⟨rfl, restoreStackPage_of_onStackPage (onStackPage_pull8 (onStackPage_pull16 hs))⟩

end Sys2Proof.Proofs
end

section
/-! REP, SEP, PLP, XBA and XCE (48_nop_rep_sep_xba_xce.md, 47_blockmove_stack.md R303): rule R325 after every write of P
or e, as the claims write it out. -/

namespace Sys2Proof.Proofs

open Machine Claims

/-! ### Rule R325 -/

/-- `enforceMode` is rule R325 on the P it finds. -/
theorem modeEnforced_enforceMode (s : State) : ModeEnforced s s.enforceMode s.p s.e := by
  have hflag (f : Flag) : s.enforceMode.flag f = ((s.e && decide (f = .m ∨ f = .x)) || flagOf s.p f) :=
    enforceMode_flag s f
  refine ⟨fun f hm hx => ?_, ?_, ?_, rfl, rfl, rfl⟩ <;> rw [hflag]
  · simp [hm, hx]
  · simp
  · simp

theorem modeEnforced_writeP (s : State) (v : Byte) : ModeEnforced s (s.writeP v) v s.e :=
  modeEnforced_enforceMode { s with p := v }

/-- Where SH is already $01 in emulation mode, rule R325 leaves S as it is. -/
theorem enforceMode_sp_of_page {s : State} (h : s.e = true → hi s.sp = 0x01#8) : s.enforceMode.sp = s.sp := by
  rw [enforceMode_sp]
  split
  next he => rw [← h he, joinWord_hi_lo]
  next => rfl

theorem writeP_eq {s : State} (h : s.e = true → hi s.sp = 0x01#8) (v : Byte) :
    s.writeP v = { s with p := (s.writeP v).p, x := (s.writeP v).x, y := (s.writeP v).y } := by
  have hsp : (s.writeP v).sp = s.sp := enforceMode_sp_of_page h
  calc s.writeP v
    _ = { s with p := (s.writeP v).p, x := (s.writeP v).x, y := (s.writeP v).y, sp := (s.writeP v).sp } := rfl
    _ = { s with p := (s.writeP v).p, x := (s.writeP v).x, y := (s.writeP v).y } := by rw [hsp]

/-! ### PLP (R303) -/

theorem exec_plp (s : State) : exec .plp s = .next
    ((State.writeP { s with sp := pageSp s 1 } (s.readByte .stack (pullSlot s .page 1))).advance 1) := by
  have hexec : exec .plp s = .next (((s.pull8 .page).2.writeP (s.pull8 .page).1).advance 1) := rfl
  rw [hexec, pull8_eq_slot, stackAbove_page]
  rfl

/-! ### The obligations -/

/-- Settles O52: each is `writeP` of its byte; the invariant is what keeps S where REP and SEP find it. -/
theorem statusMasksAndPull : Obligations.StatusMasksAndPull := by
  unfold Obligations.StatusMasksAndPull
  intro s const hs
  have hmask (v : Byte) : (s.writeP v).advance 2 = { s with
      p := ((s.writeP v).advance 2).p, x := ((s.writeP v).advance 2).x, y := ((s.writeP v).advance 2).y,
      pc := ((s.writeP v).advance 2).pc } := by
    rw [writeP_eq hs.emulationStack]
    rfl
  exact ⟨⟨⟨rfl, rfl⟩, _, rfl, hmask _, modeEnforced_writeP s _, pastInstr_advance rfl 2⟩,
    ⟨⟨rfl, rfl⟩, _, rfl, hmask _, modeEnforced_writeP s _, pastInstr_advance rfl 2⟩,
    ⟨rfl, rfl⟩, _, exec_plp s, rfl, modeEnforced_writeP _ _, pastInstr_advance rfl 1⟩

/-- Settles O53: XBA writes C and then n and z of its new low byte; XCE is rule R325 after c and e are exchanged. -/
theorem exchangeInstructions : Obligations.ExchangeInstructions := by
  unfold Obligations.ExchangeInstructions
  intro s _
  have hcarry : s.e = flagOf (withFlag s.p .c s.e) .c := by rw [flagOf_withFlag, if_pos rfl]
  have hmode := modeEnforced_enforceMode { s with e := s.flag .c, p := withFlag s.p .c s.e }
  refine ⟨⟨⟨rfl, rfl⟩, _, rfl, rfl, lo_joinWord _ _, hi_joinWord _ _, ?_, flagsKept_setNZ (fun _ => rfl) _ 1,
    pastInstr_advance rfl 1⟩, ⟨rfl, rfl⟩, _, rfl, rfl, hmode, ?_, pastInstr_advance rfl 1⟩
  · have hlow : lo (joinWord (lo s.c) (hi s.c)) = hi s.c := lo_joinWord _ _
    rw [advance_c, setNZ_c, hlow]
    exact showsNZ_setNZ _ _ 1
  · obtain ⟨hflags, -⟩ := hmode
    exact (hflags .c nofun nofun).trans hcarry.symm

end Sys2Proof.Proofs
end

section
/-! Block moves (47_blockmove_stack.md R290 to R292): one step moves one byte, and with 16-bit indexes MVN moves the
block. -/

namespace Sys2Proof.Proofs

open Machine Claims

/-! ### One step -/

theorem toNat_narrow (w : Width) (v : Word) : (narrow w v).toNat = v.toNat % 2 ^ w.bits := by
  have hle : v.toNat % 2 ^ w.bits < 2 ^ 16 := lt_of_le_of_lt (Nat.mod_le _ _) v.isLt
  rw [narrow, BitVec.toNat_setWidth, BitVec.toNat_setWidth, Nat.mod_eq_of_lt hle]

/-- An index register moved up by one at the width of x. -/
theorem toNat_narrow_add_one (w : Width) (v : Word) :
    ((narrow w (v + 0x0001#16)).toNat : Int) = ((v.toNat : Int) + 1) % 2 ^ w.bits := by
  rw [toNat_narrow, BitVec.toNat_add, BitVec.toNat_ofNat]
  cases w <;> simp only [Width.bits] <;> omega

/-- An index register moved down by one at the width of x. -/
theorem toNat_narrow_sub_one (w : Width) (v : Word) :
    ((narrow w (v + 0xFFFF#16)).toNat : Int) = ((v.toNat : Int) - 1) % 2 ^ w.bits := by
  rw [toNat_narrow, BitVec.toNat_add, BitVec.toNat_ofNat]
  cases w <;> simp only [Width.bits] <;> omega

theorem storedBytes_writeByte (s : State) (a : Addr) (v : Byte) : StoredBytes s (s.writeByte a v) [(a, v)] := by
  constructor
  · intro q hq hram use
    obtain rfl := List.mem_singleton.mp hq
    exact readByte_writeByte_same s use a v hram
  · intro b hb use
    exact readByte_writeByte_ne s use a b v (hb _ (List.mem_singleton_self _)).symm

/-- PC stays until C has passed $0000. -/
theorem blockMove_pc (s : State) (by_ : Word) (src dest : Byte) :
    (s.blockMove by_ src dest).pc = if s.c = 0x0000#16 then s.pc + 3#16 else s.pc := by
  have hpc : (s.blockMove by_ src dest).pc = if s.c - 1#16 != 0xFFFF#16 then s.pc else s.pc + 3#16 := rfl
  rw [hpc]
  by_cases hc : s.c = 0x0000#16
  · simp [hc]
  · have hmore : s.c - 1#16 ≠ 0xFFFF#16 := by bv_omega
    simp [hc, hmore]

/-- The whole effect of a step, but for where the index registers go. -/
theorem blockMove_eq (s : State) (by_ : Word) (src dest : Byte) : s.blockMove by_ src dest = { s with
    c := s.c - 1#16
    x := narrow s.wXY (s.x + by_)
    y := narrow s.wXY (s.y + by_)
    dbr := dest
    mem := (s.writeByte (bankAddr dest s.y) (s.readByte .data (bankAddr src s.x))).mem
    pc := if s.c = 0x0000#16 then s.pc + 3#16 else s.pc } := by
  rw [← blockMove_pc s by_ src dest]
  rfl

theorem storedBytes_blockMove (s : State) (by_ : Word) (src dest : Byte) :
    StoredBytes s (s.blockMove by_ src dest) [(bankAddr dest s.y, s.readByte .data (bankAddr src s.x))] := by
  rw [blockMove_eq]
  exact storedBytes_writeByte s _ _

/-! ### The whole block -/

theorem repeated_succ {i : Instr} {s t : State} (h : exec i s = .next t) (k : Nat) :
    repeated i (k + 1) s = repeated i k t := by
  rw [repeated, h]

/-- What MVN has done once C has counted down: the words of the claim about the whole block. -/
structure CopiedBlock (src dest : Byte) (s t : State) : Prop where
  frame : t = { s with c := 0xFFFF#16, x := t.x, y := t.y, dbr := dest, pc := s.pc + 3#16, mem := t.mem }
  x : t.x = s.x + s.c + 1#16
  y : t.y = s.y + s.c + 1#16
  copied : ∀ k : Nat, k ≤ s.c.toNat → ∀ use, t.readByte use (bankAddr dest (s.y + BitVec.ofNat 16 k)) =
    s.readByte .data (bankAddr src (s.x + BitVec.ofNat 16 k))
  kept : ∀ a : Addr, (∀ k : Nat, k ≤ s.c.toNat → a ≠ bankAddr dest (s.y + BitVec.ofNat 16 k)) →
    ∀ use, t.readByte use a = s.readByte use a

section
variable {s : State} {src dest : Byte}

/-- One step of MVN with 16-bit indexes. -/
theorem blockMove_up_eq (hx : s.flag .x = false) : s.blockMove 0x0001#16 src dest = { s with
    c := s.c - 1#16
    x := s.x + 1#16
    y := s.y + 1#16
    dbr := dest
    mem := (s.blockMove 0x0001#16 src dest).mem
    pc := if s.c = 0x0000#16 then s.pc + 3#16 else s.pc } := by
  have hw : s.wXY = .w16 := by simp [State.wXY, hx]
  have h := blockMove_eq s 0x0001#16 src dest
  rw [hw, narrow_w16, narrow_w16] at h
  exact h

/-- The bytes after the one at `v` stand at other offsets: at most $FFFF of them follow. -/
theorem offset_ne_of_lt (v : Word) {k : Nat} (hk : k + 1 < 65536) : v + BitVec.ofNat 16 (k + 1) ≠ v := by
  intro h
  have h0 := congrArg BitVec.toNat h
  rw [BitVec.toNat_add, BitVec.toNat_ofNat] at h0
  omega

theorem add_one_add_ofNat (v : Word) (k : Nat) : v + 1#16 + BitVec.ofNat 16 k = v + BitVec.ofNat 16 (k + 1) := by
  rw [BitVec.add_assoc, Nat.add_comm k 1, BitVec.ofNat_add]

/-- A byte outside the block is not the first one of it. -/
theorem ne_first_of_outside {n : Nat} {a : Addr} {v : Byte}
    (ha : ∀ k : Nat, k ≤ n → a ≠ bankAddr dest (s.y + BitVec.ofNat 16 k)) :
    ∀ q ∈ [(bankAddr dest s.y, v)], a ≠ q.1 := by
  intro q hq
  obtain rfl := List.mem_singleton.mp hq
  have h := ha 0 (Nat.zero_le _)
  rwa [BitVec.add_zero] at h

/-- The last byte ends the block. -/
theorem copiedBlock_last (hx : s.flag .x = false) (hram : ∀ o : Word, s.kindAt (bankAddr dest o) = .ram)
    (hc : s.c = 0x0000#16) : CopiedBlock src dest s (s.blockMove 0x0001#16 src dest) := by
  have hstep := blockMove_up_eq (src := src) (dest := dest) hx
  obtain ⟨hstored, hkept⟩ := storedBytes_blockMove s 0x0001#16 src dest
  have hzero (k : Nat) (hk : k ≤ s.c.toNat) (v : Word) : v + BitVec.ofNat 16 k = v := by
    have hk0 : k = 0 := by simpa [hc] using hk
    rw [hk0, BitVec.add_zero]
  refine ⟨?_, ?_, ?_, fun k hk use => ?_, fun a ha => hkept a (ne_first_of_outside ha)⟩
  · rw [hstep]
    simp [hc]
  · rw [hstep]
    simp [hc]
  · rw [hstep]
    simp [hc]
  · rw [hzero k hk, hzero k hk]
    exact hstored _ (List.mem_singleton_self _) (hram s.y) use

/-- A byte and then the rest of the block: the rest neither overwrites the byte, which stands before it, nor sees it,
which stands in another bank. -/
theorem copiedBlock_more {t : State} (hx : s.flag .x = false) (hne : src ≠ dest)
    (hram : ∀ o : Word, s.kindAt (bankAddr dest o) = .ram) (hc : s.c ≠ 0x0000#16)
    (hrest : CopiedBlock src dest (s.blockMove 0x0001#16 src dest) t) : CopiedBlock src dest s t := by
  have hstep := blockMove_up_eq (src := src) (dest := dest) hx
  rw [if_neg hc] at hstep
  obtain ⟨hstored, hkept⟩ := storedBytes_blockMove s 0x0001#16 src dest
  obtain ⟨hframe, htx, hty, hcopied, hothers⟩ := hrest
  generalize s.blockMove 0x0001#16 src dest = u at *
  have hux : u.x = s.x + 1#16 := by rw [hstep]
  have huy : u.y = s.y + 1#16 := by rw [hstep]
  have huc : u.c = s.c - 1#16 := by rw [hstep]
  have hcount : u.c.toNat + 1 = s.c.toNat := by
    rw [huc]
    bv_omega
  have hbound := s.c.isLt
  rw [huc, hux] at htx
  rw [huc, huy] at hty
  simp only [hux, huy, add_one_add_ofNat] at hcopied hothers
  refine ⟨?_, ?_, ?_, fun k hk use => ?_, fun a ha use => ?_⟩
  · rw [hframe, hstep]
  · rw [htx]
    bv_omega
  · rw [hty]
    bv_omega
  · cases k with
    | zero =>
      rw [BitVec.add_zero, BitVec.add_zero, hothers _ fun j hj h => ?_]
      · exact hstored _ (List.mem_singleton_self _) (hram s.y) use
      · exact offset_ne_of_lt s.y (by omega) (bankAddr_inj h).2.symm
    | succ j =>
      rw [hcopied j (by omega) use]
      exact hkept _ (fun q hq h => hne (bankAddr_inj (h.trans (congrArg Prod.fst (List.mem_singleton.mp hq)))).1) .data
  · rw [hothers a (fun j hj => ha (j + 1) (by omega)) use]
    exact hkept a (ne_first_of_outside ha) use

end

/-- By induction on the count: C + 1 executions of MVN copy C + 1 bytes. -/
theorem mvn_copiesBlock {src dest : Byte} (hne : src ≠ dest) (n : Nat) : ∀ s : State, s.c.toNat = n →
    s.flag .x = false → (∀ o : Word, s.kindAt (bankAddr dest o) = .ram) →
    ∃ t, repeated (.mvn src dest) (n + 1) s = some t ∧ CopiedBlock src dest s t := by
  have hexec (s : State) : exec (.mvn src dest) s = .next (s.blockMove 0x0001#16 src dest) := rfl
  induction n with
  | zero =>
    intro s hcount hx hram
    have hc : s.c = 0x0000#16 := BitVec.eq_of_toNat_eq hcount
    exact ⟨_, repeated_succ (hexec s) 0, copiedBlock_last hx hram hc⟩
  | succ n ih =>
    intro s hcount hx hram
    have hc : s.c ≠ 0x0000#16 := fun h => by simp [h] at hcount
    have hless : (s.blockMove 0x0001#16 src dest).c.toNat = n := by
      rw [blockMove_eq]
      bv_omega
    obtain ⟨t, hrepeat, hrest⟩ := ih _ hless (by rwa [blockMove_flag]) (by simpa [State.kindAt] using hram)
    exact ⟨t, (repeated_succ (hexec s) (n + 1)).trans hrepeat, copiedBlock_more hx hne hram hc hrest⟩

/-! ### The obligations -/

/-- Settles O45: both are `blockMove`, with $0001 or $FFFF added to the index registers. -/
theorem blockMoveStep : Obligations.BlockMoveStep := by
  unfold Obligations.BlockMoveStep
  intro s src dest
  exact ⟨⟨⟨rfl, rfl⟩, _, rfl, rfl, toNat_narrow_add_one s.wXY s.x, toNat_narrow_add_one s.wXY s.y,
      storedBytes_blockMove s _ src dest, blockMove_pc s _ src dest⟩,
    ⟨rfl, rfl⟩, _, rfl, rfl, toNat_narrow_sub_one s.wXY s.x, toNat_narrow_sub_one s.wXY s.y,
      storedBytes_blockMove s _ src dest, blockMove_pc s _ src dest⟩

/-- Settles O46: `mvn_copiesBlock` at the count that C holds. -/
theorem mvnCopiesBlock : Obligations.MvnCopiesBlock := by
  unfold Obligations.MvnCopiesBlock
  intro s src dest hx hne hram
  obtain ⟨t, hrepeat, hframe, htx, hty, hcopied, hkept⟩ := mvn_copiesBlock hne s.c.toNat s rfl hx hram
  exact ⟨t, hrepeat, hframe, htx, hty, hcopied, hkept⟩

end Sys2Proof.Proofs
end

section
/-! Traps and their return (60_exceptions.md R341 to R350, 49_misc.md R330 to R332): the frame of a trap as a list of
pushed bytes, the entry as the claims word it, and what RTI reads back. -/

namespace Sys2Proof.Proofs

open Machine Claims

/-! ### The entry of a trap (R346, R347) -/

/-- The bytes a trap saves, in the order they are pushed. -/
def trapFrame (s : State) (cause : TrapCause) (ret : Word) : List Byte :=
  if s.e then [hi ret, lo ret, cause.emulationImage s.p] else [s.pbr, hi ret, lo ret, s.p]

section
variable (s : State) (cause : TrapCause) (ret : Word)

theorem pushTrapFrame_eq_pushBytes : s.pushTrapFrame cause ret = pushBytes s .page (trapFrame s cause ret) := by
  rw [pushBytes, trapFrame]
  cases he : s.e with
  | false => exact pushTrapFrame_native he cause ret
  | true => exact pushTrapFrame_emulation he cause ret

theorem length_trapFrame_le : (trapFrame s cause ret).length ≤ 4 := by
  unfold trapFrame
  split <;> simp

theorem takeTrap_sp_below : (s.takeTrap cause ret).sp = s.stackBelow .page (trapFrame s cause ret).length := by
  rw [takeTrap_sp, pushTrapFrame_eq_pushBytes, pushBytes_sp]

theorem storedBytes_takeTrap : StoredBytes s (s.takeTrap cause ret)
    ((trapFrame s cause ret).mapIdx fun k v => (pushSlot s .page k, v)) := by
  have hlen := length_trapFrame_le s cause ret
  have h := storedBytes_pushBytes s .page (trapFrame s cause ret) (by omega)
  simpa only [StoredBytes, takeTrap_readByte, pushTrapFrame_eq_pushBytes] using h

/-- A trap writes S, memory, PC, PBR and P. -/
theorem takeTrap_eq_with : s.takeTrap cause ret = { s with
    sp := (s.takeTrap cause ret).sp
    mem := (s.takeTrap cause ret).mem
    pc := (s.takeTrap cause ret).pc
    pbr := (s.takeTrap cause ret).pbr
    p := (s.takeTrap cause ret).p } := by
  apply State.ext <;> simp

theorem flagsKept_takeTrap : FlagsKept s (s.takeTrap cause ret) [.i, .d] := by
  intro f hf
  obtain ⟨hmask, hd⟩ : f ≠ .i ∧ f ≠ .d := by simpa using hf
  rw [takeTrap_flag, if_neg hd, if_neg hmask]

/-- Every trap, from its two vectors and its image of P. -/
theorem trapEntered_takeTrap : TrapEntered s (s.takeTrap cause ret) (cause.vector false) (cause.vector true)
    (cause.emulationImage s.p) ret := by
  have hstored := storedBytes_takeTrap s cause ret
  have hsp := takeTrap_sp_below s cause ret
  have hpc := takeTrap_pc s cause ret
  rw [stackBelow_page] at hsp
  unfold trapFrame at hstored hsp
  refine ⟨fun he => ?_, fun he => ?_, by simp, by simp, flagsKept_takeTrap s cause ret, takeTrap_pbr s cause ret,
    takeTrap_eq_with s cause ret⟩
  all_goals
    rw [he] at hstored hsp hpc
    exact ⟨hstored, hsp, hpc⟩

end

/-! ### The return (R332) -/

/-- Pulls go on where earlier pulls have left S. -/
theorem stackAbove_of_stackAbove {s t : State} {r : StackRule} {j : Nat}
    (hsp : t.sp = s.stackAbove r j) (he : t.e = s.e) (k : Nat) : t.stackAbove r k = s.stackAbove r (j + k) := by
  simp only [State.stackAbove, he, hsp]
  split
  · rw [hi_joinWord, lo_joinWord, BitVec.ofNat_add, BitVec.add_assoc]
  · rw [BitVec.ofNat_add, BitVec.add_assoc]

section
variable {s t : State} {r : StackRule} {j : Nat} (hsp : t.sp = s.stackAbove r j) (he : t.e = s.e)
include hsp he

theorem pullSlot_of_stackAbove (k : Nat) : pullSlot t r k = pullSlot s r (j + k) :=
  congrArg bank0 (stackAbove_of_stackAbove hsp he k)

theorem pull8_of_stackAbove :
    t.pull8 r = (t.readByte .stack (pullSlot s r (j + 1)), { t with sp := s.stackAbove r (j + 1) }) := by
  rw [pull8_eq_slot, pullSlot_of_stackAbove hsp he, stackAbove_of_stackAbove hsp he]

theorem pull16_of_stackAbove :
    t.pull16 r = (joinWord (t.readByte .stack (pullSlot s r (j + 2))) (t.readByte .stack (pullSlot s r (j + 1))),
      { t with sp := s.stackAbove r (j + 2) }) := by
  rw [pull16_eq_slots, pullSlot_of_stackAbove hsp he, pullSlot_of_stackAbove hsp he, stackAbove_of_stackAbove hsp he]

end

theorem hi_stackAbove_page {s : State} (hpage : s.e = true → hi s.sp = 0x01#8) (k : Nat) (he : s.e = true) :
    hi (s.stackAbove .page k) = 0x01#8 := by
  simp [State.stackAbove, he, hpage he]

/-- What RTI does once P is restored: it pulls PC and, in native mode, PBR. -/
def resumeProgram (s : State) : State :=
  let jumped := (s.pull16 .page).2.jump (s.pull16 .page).1
  if s.e then jumped else { (jumped.pull8 .page).2 with pbr := (jumped.pull8 .page).1 }

theorem returnFromTrap_eq_resumeProgram (s : State) :
    s.returnFromTrap = resumeProgram ((s.pull8 .page).2.writeP (s.pull8 .page).1) := rfl

theorem resumeProgram_of_stackAbove {s t : State} {j : Nat} (hsp : t.sp = s.stackAbove .page j) (he : t.e = s.e) :
    resumeProgram t = { t with
      sp := s.stackAbove .page (j + if s.e then 2 else 3)
      pc := joinWord (t.readByte .stack (pullSlot s .page (j + 2))) (t.readByte .stack (pullSlot s .page (j + 1)))
      pbr := if s.e then t.pbr else t.readByte .stack (pullSlot s .page (j + 3)) } := by
  have hcounter := pull16_of_stackAbove hsp he
  cases hs : s.e with
  | true =>
    have hresume : resumeProgram t = (t.pull16 .page).2.jump (t.pull16 .page).1 := if_pos (he.trans hs)
    rw [hresume, hcounter]
    rfl
  | false =>
    have hresume : resumeProgram t = { ((t.pull16 .page).2.jump (t.pull16 .page).1).pull8 .page |>.2 with
      pbr := (((t.pull16 .page).2.jump (t.pull16 .page).1).pull8 .page).1 } := if_neg (by simp [he, hs])
    have hthird : ((t.pull16 .page).2.jump (t.pull16 .page).1).sp = s.stackAbove .page (j + 2) := by rw [hcounter]; rfl
    rw [hresume, pull8_of_stackAbove hthird he, hcounter]
    rfl

/-- RTI in one equation: P, X and Y as rule R325 makes them of the byte pulled first, then PC and, in native mode,
PBR. -/
theorem returnFromTrap_eq {s : State} (hpage : s.e = true → hi s.sp = 0x01#8) : s.returnFromTrap = { s with
    p := (s.writeP (s.readByte .stack (pullSlot s .page 1))).p
    x := (s.writeP (s.readByte .stack (pullSlot s .page 1))).x
    y := (s.writeP (s.readByte .stack (pullSlot s .page 1))).y
    sp := s.stackAbove .page (if s.e then 3 else 4)
    pc := joinWord (s.readByte .stack (pullSlot s .page 3)) (s.readByte .stack (pullSlot s .page 2))
    pbr := if s.e then s.pbr else s.readByte .stack (pullSlot s .page 4) } := by
  generalize hstatus : s.readByte .stack (pullSlot s .page 1) = status
  have hsp : (State.writeP { s with sp := s.stackAbove .page 1 } status).sp = s.stackAbove .page 1 :=
    enforceMode_sp_of_page (s := { s with sp := s.stackAbove .page 1, p := status }) (hi_stackAbove_page hpage 1)
  have hresume := resumeProgram_of_stackAbove hsp (writeP_e _ status)
  have hcount : (1 + if s.e then 2 else 3) = if s.e then 3 else 4 := by cases s.e <;> rfl
  rw [hcount] at hresume
  rw [returnFromTrap_eq_resumeProgram, pull8_eq_slot, hstatus, hresume]
  rfl

/-! ### The obligations -/

/-- Settles O13: both are `takeTrap` with the return address after the signature byte. -/
theorem softwareTrapsEnter : Obligations.SoftwareTrapsEnter := by
  unfold Obligations.SoftwareTrapsEnter
  intro s signature
  exact ⟨⟨⟨rfl, rfl⟩, _, rfl, trapEntered_takeTrap s .brk (s.pc + 2#16)⟩,
    ⟨rfl, rfl⟩, _, rfl, trapEntered_takeTrap s .cop (s.pc + 2#16)⟩

/-- Settles O11: at the boundary an interrupt is `takeTrap` from the current PC in the state made ready. -/
theorem interruptsAreTaken : Obligations.InterruptsAreTaken := by
  unfold Obligations.InterruptsAreTaken
  intro s i hinputs hreset hrun ready
  have hcurrent : s.currentInputs = i := hinputs
  subst hcurrent
  refine ⟨step_abort hreset hrun, fun habort hnmi => ?_, fun habort hnmi hirq hmask => ?_⟩
  · exact ⟨_, step_nmi hreset hrun habort hnmi, trapEntered_takeTrap ready .nmi s.pc⟩
  · have hlatch : s.nmiPending = false := (Bool.or_eq_false_iff.mp hnmi).1
    have hready : { s.beginStep with run := .running } = ready :=
      congrArg (fun b => { s.beginStep with run := .running, nmiPending := b }) hlatch
    have htaken : s.beginStep.takeInterrupt .irq = ready.takeTrap .irq s.pc := by
      rw [← hready]
      rfl
    exact ⟨_, (step_irq hreset hrun habort hnmi hirq hmask).trans (congrArg _ htaken),
      trapEntered_takeTrap ready .irq s.pc⟩

/-- Settles O14: PC and PBR stand in the equation of RTI, and the rest is rule R325 on the byte pulled first. -/
theorem returnFromInterrupt : Obligations.ReturnFromInterrupt := by
  unfold Obligations.ReturnFromInterrupt
  intro s hpage
  have hexec : exec .rti s = .next s.returnFromTrap := rfl
  rw [returnFromTrap_eq hpage] at hexec
  obtain ⟨hflags, hm, hx, hxreg, hyreg, -⟩ := modeEnforced_writeP s (s.readByte .stack (pullSlot s .page 1))
  refine ⟨⟨rfl, rfl⟩, _, hexec, rfl, ⟨hflags, hm, hx, hxreg, hyreg, ?_⟩, rfl, rfl⟩
  have hsp : s.stackAbove .page (if s.e then 3 else 4) = pageSp s (if s.e then 3 else 4) := by
    rw [stackAbove_page]
    cases s.e <;> rfl
  rw [← hsp]
  split
  next he => rw [← hi_stackAbove_page hpage _ he, joinWord_hi_lo]
  next => rfl

end Sys2Proof.Proofs
end

section
/-! Round trips: a pull right after its push, and a return right after the entry of a trap, give back what was saved
(47_blockmove_stack.md R309, 60_exceptions.md R350). -/

namespace Sys2Proof.Proofs

open Machine Claims

/-! ### A push and its pull (R309) -/

/-- What a push at a width stored is what a pull at that width reads, and S is back. -/
theorem pullReg_of_pushed {s t : State} {w : Width} {v : BitVec w.bits} (h : Pushed s t .page (pushOrder w v))
    (hsp : t.sp = s.stackBelow .page (pushOrder w v).length)
    (hram : ∀ k, k < 2 → s.kindAt (pushSlot s .page k) = .ram) :
    pulledValue t w = v ∧ pageSp t (bytesOf w) = s.sp := by
  have he : t.e = s.e := by rw [h]
  have hback (k : Nat) (hk : (pushOrder w v).length = 0 + k) : pageSp t k = s.sp := by
    rw [← stackAbove_page, stackAbove_of_stackBelow he (by rw [hsp, hk]), stackBelow_zero]
  have hread {j k : Nat} {b : Byte} (hjk : (pushOrder w v).length = j + k) (hb : (pushOrder w v)[j]? = some b)
      (hj : j < 2) : t.readByte .stack (pullSlot t .page k) = b :=
    readByte_pullSlot_of_pushed h hsp (length_pushOrder_le w v) hjk hb (hram j hj)
  cases w with
  | w8 => exact ⟨hread (j := 0) (k := 1) rfl rfl (by omega), hback 1 rfl⟩
  | w16 =>
    have hlow : t.readByte .stack (pullSlot t .page 1) = lo v := hread (j := 1) rfl rfl (by omega)
    have hhigh : t.readByte .stack (pullSlot t .page 2) = hi v := hread (j := 0) rfl rfl (by omega)
    refine ⟨?_, hback 2 rfl⟩
    rw [pulledValue, hlow, hhigh, joinWord_hi_lo]

/-- The state between a push at a width and its pull. -/
theorem pushAtWidth_eq (s : State) (w : Width) (v : BitVec w.bits) : s.pushAtWidth w v = { s with
    sp := s.stackBelow .page (pushOrder w v).length
    mem := (pushBytes s .page (pushOrder w v)).mem
    pc := s.pc + 1#16 } := by
  rw [State.pushAtWidth, pushReg_eq_pushBytes, pushBytes_eq_with_sp_mem, pushBytes_sp]
  rfl

theorem pushAtWidth_wA (s : State) (w : Width) (v : BitVec w.bits) : (s.pushAtWidth w v).wA = s.wA := by
  rw [pushAtWidth_eq]
  rfl

theorem pushAtWidth_wXY (s : State) (w : Width) (v : BitVec w.bits) : (s.pushAtWidth w v).wXY = s.wXY := by
  rw [pushAtWidth_eq]
  rfl

theorem pull_of_pushAtWidth {s : State} (hram : ∀ k, k < 2 → s.kindAt (pushSlot s .page k) = .ram) (w : Width)
    (v : BitVec w.bits) :
    pulledValue (s.pushAtWidth w v) w = v ∧ pageSp (s.pushAtWidth w v) (bytesOf w) = s.sp := by
  rw [pushAtWidth_eq]
  exact pullReg_of_pushed (pushed_with ..) rfl hram

/-! ### A register given back what it holds -/

/-- A register written at a width with the value it holds at that width is as it was (R20). -/
theorem setAcc_acc_self (s : State) (w : Width) : s.setAcc w (s.acc w) = s := by
  have hc : (s.setAcc w (s.acc w)).c = s.c := by
    cases w with
    | w8 => exact (congrArg (joinWord (hi s.c)) (setWidth8_eq_lo s.c)).trans (joinWord_hi_lo s.c)
    | w16 => exact BitVec.setWidth_eq s.c
  have hstate : s.setAcc w (s.acc w) = { s with c := (s.setAcc w (s.acc w)).c } := rfl
  rw [hstate, hc]

/-- Rule R325 changes nothing in a state of a run whose own P is written back, with m and x set or not. -/
theorem writeP_eq_self {s : State} (hs : s.ModeInv) {v : Byte} (hv : (if s.e then v ||| 0x30#8 else v) = s.p) :
    s.writeP v = s := by
  obtain ⟨-, hpage, hnarrow⟩ := hs
  have hp : (s.writeP v).p = s.p := hv
  have hindex {r : Word} (hzero : s.flag .x = true → hi r = 0x00#8) :
      (if flagOf s.p .x then zext16 (lo r) else r) = r := by
    split
    next hx => exact zext16_lo_of_hi_zero (hzero hx)
    next => rfl
  have hx : (s.writeP v).x = if flagOf (s.writeP v).p .x then zext16 (lo s.x) else s.x := rfl
  have hy : (s.writeP v).y = if flagOf (s.writeP v).p .x then zext16 (lo s.y) else s.y := rfl
  rw [hp, hindex fun h => (hnarrow h).1] at hx
  rw [hp, hindex fun h => (hnarrow h).2] at hy
  rw [writeP_eq hpage, hp, hx, hy]

/-! ### A push and its pull, as instructions -/

/-- Two instructions of one byte (R32). -/
theorem pc_add_one_add_one (s : State) : s.pc + 1#16 + 1#16 = s.pc + 2#16 := BitVec.add_assoc s.pc 1#16 1#16

/-- A push at a width and then a pull that writes the value back, with n and z: only memory, P and PC are changed, when
the write gives the register what it held. -/
theorem pull_after_push {s : State} {i j : Instr} {w : Width} {v : BitVec w.bits}
    {write : State → BitVec w.bits → State} (hram : ∀ k, k < 2 → s.kindAt (pushSlot s .page k) = .ram)
    (hpush : exec i s = .next (s.pushAtWidth w v))
    (hpull : exec j (s.pushAtWidth w v) = .next (((write { s.pushAtWidth w v with
      sp := pageSp (s.pushAtWidth w v) (bytesOf w) } (pulledValue (s.pushAtWidth w v) w)).setNZ
      (pulledValue (s.pushAtWidth w v) w)).advance 1))
    (hback : ∀ mem pc, write { s with mem := mem, pc := pc } v = { s with mem := mem, pc := pc }) :
    ∃ t, (after i s).bind (after j) = some t ∧ t = { s with mem := t.mem, p := t.p, pc := s.pc + 2#16 } := by
  obtain ⟨hvalue, hsp⟩ := pull_of_pushAtWidth hram w v
  rw [hvalue, hsp, pushAtWidth_eq, hback] at hpull
  rw [pushAtWidth_eq] at hpush
  refine ⟨_, by rw [after_of_exec hpush, Option.bind_some, after_of_exec hpull], ?_⟩
  rw [← pc_add_one_add_one]
  rfl

/-- PHP pushes P whole, and PLP writes it back whole (R296, R303). -/
theorem plp_after_php {s : State} (hs : s.Inv) (hram : ∀ k, k < 2 → s.kindAt (pushSlot s .page k) = .ram) :
    ∃ t, (after .php s).bind (after .plp) = some t ∧ t = { s with mem := t.mem, pc := s.pc + 2#16 } := by
  have hpush : exec .php s = .next (s.pushAtWidth .w8 s.statusImage) := rfl
  have hpull := exec_plp (s.pushAtWidth .w8 s.p)
  obtain ⟨hvalue, hsp⟩ := pull_of_pushAtWidth hram .w8 s.p
  have hbyte : (s.pushAtWidth .w8 s.p).readByte .stack (pullSlot (s.pushAtWidth .w8 s.p) .page 1) = s.p := hvalue
  have hstack : pageSp (s.pushAtWidth .w8 s.p) 1 = s.sp := hsp
  have hp : (if s.e then s.p ||| 0x30#8 else s.p) = s.p := statusImage_eq hs
  have hself (mem : Memory) (pc : Word) :
      State.writeP { s with mem := mem, pc := pc } s.p = { s with mem := mem, pc := pc } :=
    writeP_eq_self (s := { s with mem := mem, pc := pc }) hs.mode hp
  rw [hbyte, hstack, pushAtWidth_eq, hself] at hpull
  rw [statusImage_eq hs, pushAtWidth_eq] at hpush
  refine ⟨_, by rw [after_of_exec hpush, Option.bind_some, after_of_exec hpull], ?_⟩
  rw [← pc_add_one_add_one]
  rfl

/-! ### The entry of a trap and its return -/

/-- The bytes of the frame are what the pulls after a trap read. -/
theorem readByte_pullSlot_takeTrap {s : State} {cause : TrapCause} {ret : Word}
    (hram : ∀ k, k < 4 → s.kindAt (pushSlot s .page k) = .ram) {j k : Nat} {b : Byte}
    (hjk : (trapFrame s cause ret).length = j + k) (hb : (trapFrame s cause ret)[j]? = some b) (hj : j < 4) :
    (s.takeTrap cause ret).readByte .stack (pullSlot (s.takeTrap cause ret) .page k) = b := by
  have hlen := length_trapFrame_le s cause ret
  have hslot : pullSlot (s.takeTrap cause ret) .page k =
      pullSlot (pushBytes s .page (trapFrame s cause ret)) .page k := by
    simp [pullSlot, takeTrap_sp, pushTrapFrame_eq_pushBytes]
  rw [hslot, takeTrap_readByte, pushTrapFrame_eq_pushBytes]
  exact readByte_pullSlot_of_pushed (pushed_pushBytes ..) (pushBytes_sp ..) (by omega) hjk hb (hram j hj)

/-- Every image of P that a trap pushes differs from P in m and x alone. -/
theorem emulationImage_or_widths (cause : TrapCause) (p : Byte) :
    cause.emulationImage p ||| 0x30#8 = p ||| 0x30#8 := by
  refine flags_ext fun f => ?_
  rw [flagOf_or_widths, flagOf_or_widths]
  cases f with
  | m | x => simp
  | _ => cases cause <;> simp [TrapCause.emulationImage, flagOf, Flag.bit]

/-- Rule R325 on a byte pulled after a trap is rule R325 on it before. -/
theorem writeP_takeTrap (s : State) (cause : TrapCause) (ret : Word) (v : Byte) :
    ((s.takeTrap cause ret).writeP v).p = (s.writeP v).p ∧ ((s.takeTrap cause ret).writeP v).x = (s.writeP v).x ∧
      ((s.takeTrap cause ret).writeP v).y = (s.writeP v).y := by
  rw [takeTrap_eq_with]
  exact ⟨rfl, rfl, rfl⟩

/-- The return after a trap, from what it reads in the slots. -/
theorem returnFromTrap_takeTrap {s : State} (hs : s.Inv) {cause : TrapCause} {ret : Word} {status : Byte}
    (hlen : (trapFrame s cause ret).length = if s.e then 3 else 4)
    (hstatus : (s.takeTrap cause ret).readByte .stack (pullSlot (s.takeTrap cause ret) .page 1) = status)
    (hlow : (s.takeTrap cause ret).readByte .stack (pullSlot (s.takeTrap cause ret) .page 2) = lo ret)
    (hhigh : (s.takeTrap cause ret).readByte .stack (pullSlot (s.takeTrap cause ret) .page 3) = hi ret)
    (hbank : s.e = false →
      (s.takeTrap cause ret).readByte .stack (pullSlot (s.takeTrap cause ret) .page 4) = s.pbr)
    (hp : (if s.e then status ||| 0x30#8 else status) = s.p) :
    (s.takeTrap cause ret).returnFromTrap =
      { s with pc := ret, mem := (s.takeTrap cause ret).mem, pbr := if s.e then 0x00#8 else s.pbr } := by
  have hpage : (s.takeTrap cause ret).e = true → hi (s.takeTrap cause ret).sp = 0x01#8 :=
    ((keeps_takeTrap s cause ret).inv hs).emulationStack
  have hback : (s.takeTrap cause ret).stackAbove .page (if s.e then 3 else 4) = s.sp := by
    rw [stackAbove_of_stackBelow (j := 0) (takeTrap_e ..) (by rw [takeTrap_sp_below, hlen, Nat.zero_add]),
      stackBelow_zero]
  obtain ⟨hpp, hpx, hpy⟩ := writeP_takeTrap s cause ret status
  rw [writeP_eq_self hs.mode hp] at hpp hpx hpy
  have hpbr : (if s.e then 0x00#8 else (s.takeTrap cause ret).readByte .stack
      (pullSlot (s.takeTrap cause ret) .page 4)) = if s.e then 0x00#8 else s.pbr := by
    split
    next => rfl
    next he => exact hbank (Bool.eq_false_of_not_eq_true he)
  rw [returnFromTrap_eq hpage, hstatus, hlow, hhigh, joinWord_hi_lo, takeTrap_e, takeTrap_pbr, hpbr, hback, hpp, hpx,
    hpy]
  apply State.ext <;> simp

/-! ### The obligations -/

/-- Settles O15: the frame of each mode, read back byte by byte. -/
theorem trapThenReturnRestores : Obligations.TrapThenReturnRestores := by
  unfold Obligations.TrapThenReturnRestores
  intro s cause ret hs hram
  have hread {j k : Nat} {b : Byte} :=
    readByte_pullSlot_takeTrap (cause := cause) (ret := ret) (j := j) (k := k) (b := b) hram
  rcases Bool.eq_false_or_eq_true s.e with he | he
  · have hframe : trapFrame s cause ret = [hi ret, lo ret, cause.emulationImage s.p] := if_pos he
    rw [hframe] at hread
    exact returnFromTrap_takeTrap hs (by simp [hframe, he]) (hread (j := 2) rfl rfl (by omega))
      (hread (j := 1) rfl rfl (by omega)) (hread (j := 0) rfl rfl (by omega)) (by simp [he])
      (by rw [if_pos he, emulationImage_or_widths, or_widths_eq_self hs he])
  · have hframe : trapFrame s cause ret = [s.pbr, hi ret, lo ret, s.p] := if_neg (by simp [he])
    rw [hframe] at hread
    exact returnFromTrap_takeTrap hs (by simp [hframe, he]) (hread (j := 3) rfl rfl (by omega))
      (hread (j := 2) rfl rfl (by omega)) (hread (j := 1) rfl rfl (by omega))
      (fun _ => hread (j := 0) (k := 4) rfl rfl (by omega)) (by simp [he])

/-- Settles O50: each register is written back at its own width with what it holds; X and Y lose nothing by it in a
state of a run. -/
theorem pushThenPullRestores : Obligations.PushThenPullRestores := by
  unfold Obligations.PushThenPullRestores
  intro s hs hram
  have hx : narrow s.wXY s.x = s.x := narrow_wXY_of_hi_zero fun h => (hs.narrowIndexes h).1
  have hy : narrow s.wXY s.y = s.y := narrow_wXY_of_hi_zero fun h => (hs.narrowIndexes h).2
  exact ⟨pull_after_push (write := fun t v => t.setAcc s.wA v) hram rfl (exec_pla (pushAtWidth_wA ..)) fun mem pc =>
      setAcc_acc_self { s with mem := mem, pc := pc } s.wA,
    pull_after_push (write := fun t v => t.setX s.wXY v) hram rfl (exec_plx (pushAtWidth_wXY ..)) fun mem pc =>
      congrArg (fun v : Word => { s with x := v, mem := mem, pc := pc }) hx,
    pull_after_push (write := fun t v => t.setY s.wXY v) hram rfl (exec_ply (pushAtWidth_wXY ..)) fun mem pc =>
      congrArg (fun v : Word => { s with y := v, mem := mem, pc := pc }) hy,
    plp_after_php hs hram⟩

end Sys2Proof.Proofs
end
